-- ==== Sys2Proof/Word.lean ====
section
/-! DEFINITION. Word.lean: the widths of the block's values (spec/10_state.md R21 to R43, spec/00_scope.md R10). -/

namespace Sys2Proof

/-- A wire byte, a register address, the channel mask (R31, R37, R60). -/
abbrev Byte := BitVec 8

/-- A conversion result and a slot of the value table (R32). -/
abbrev Sample := BitVec 16

/-- The container of a debounce register: W is at most 16 (R6), and the register is its low W bits (R21, R22). -/
abbrev MaskBits := BitVec 16

/-- A channel index. N_CH is at most 8 (R6), so an index of 0 to N_CH - 1 is one of these. -/
abbrev Chan := Fin 8

end Sys2Proof
end

