-- ==== Sys2Proof/Syntax.lean ====
section
/-! DEFINITION. Syntax.lean: the bus commands, one constructor per row of spec/opcode_table.json
(spec/30_encoding.md R80 to R84). -/

namespace Sys2Proof

/-- A 3-byte bus transaction (format XFER3, R80), named by the row of the opcode table its address byte falls in.
`d` and `p` are wire bytes 2 and 3, which every row leaves free (R81); `a` is wire byte 1 where the row covers a range
of addresses. All three bytes are kept although most commands ignore `d` and `p`: the block tells the bytes apart only
by counting (R63), so in a misframed state a byte this command ignores is taken as something else (R267). -/
inductive Instr where
  /-- 0x01: `d` becomes the channel mask (R145). -/
  | setmask (d p : Byte)
  /-- 0x02: read the channel mask (R146). -/
  | getmask (d p : Byte)
  /-- 0x03: request a toggle of the auxiliary pin (R147). -/
  | auxtog (d p : Byte)
  /-- 0x04: read the version pair (R148). -/
  | getver (d p : Byte)
  /-- 0x05: request the bootloader (R149). -/
  | bootld (d p : Byte)
  /-- 0x06: read the variant flag (R151). -/
  | gethw (d p : Byte)
  /-- 0x10: read analog channel 0 (R150); every build has it, since N_CH is at least 1 (R6). -/
  | getadc0 (d p : Byte)
  /-- 0x11: read analog channel 1 (R150); reserved unless 1 < N_CH (R152). -/
  | getadc1 (d p : Byte)
  /-- 0x12: read analog channel 2 (R150); reserved unless 2 < N_CH (R152). -/
  | getadc2 (d p : Byte)
  /-- 0x13: read analog channel 3 (R150); reserved unless 3 < N_CH (R152). -/
  | getadc3 (d p : Byte)
  /-- 0x14: read analog channel 4 (R150); reserved unless 4 < N_CH (R152). -/
  | getadc4 (d p : Byte)
  /-- 0x15: read analog channel 5 (R150); reserved unless 5 < N_CH (R152). -/
  | getadc5 (d p : Byte)
  /-- 0x16: read analog channel 6 (R150); reserved unless 6 < N_CH (R152). -/
  | getadc6 (d p : Byte)
  /-- 0x17: read analog channel 7 (R150); reserved unless 7 < N_CH (R152). -/
  | getadc7 (d p : Byte)
  /-- 0x00: reserved (R152). -/
  | rsvd00 (d p : Byte)
  /-- 0x07: reserved (R152). -/
  | rsvd07 (d p : Byte)
  /-- 0x08 to 0x0F: reserved (R152). -/
  | rsvd08to0F (a d p : Byte)
  /-- 0x18 to 0x1F: reserved (R152). -/
  | rsvd18to1F (a d p : Byte)
  /-- 0x20 to 0x3F: reserved (R152). -/
  | rsvd20to3F (a d p : Byte)
  /-- 0x40 to 0x7F: reserved (R152). -/
  | rsvd40to7F (a d p : Byte)
  /-- 0x80 to 0xFF: reserved (R152). -/
  | rsvd80toFF (a d p : Byte)
  deriving DecidableEq, Repr

end Sys2Proof
end

