-- ==== Sys2Proof/WellFormed.lean ====
section
/-! DEFINITION. WellFormed.lean: which terms of `Instr` name a row of the opcode table. The rows of one address admit
every operand byte (R81, R83); a row of a range admits the addresses of its range (spec/opcode_table.json, R84). -/

namespace Sys2Proof

/-- The address operand of a range row lies in the row's range. -/
def Instr.wellFormed : Instr → Bool
  | .setmask _ _ => true
  | .getmask _ _ => true
  | .auxtog _ _ => true
  | .getver _ _ => true
  | .bootld _ _ => true
  | .gethw _ _ => true
  | .getadc0 _ _ => true
  | .getadc1 _ _ => true
  | .getadc2 _ _ => true
  | .getadc3 _ _ => true
  | .getadc4 _ _ => true
  | .getadc5 _ _ => true
  | .getadc6 _ _ => true
  | .getadc7 _ _ => true
  | .rsvd00 _ _ => true
  | .rsvd07 _ _ => true
  | .rsvd08to0F a _ _ => decide (0x08 ≤ a ∧ a ≤ 0x0F)
  | .rsvd18to1F a _ _ => decide (0x18 ≤ a ∧ a ≤ 0x1F)
  | .rsvd20to3F a _ _ => decide (0x20 ≤ a ∧ a ≤ 0x3F)
  | .rsvd40to7F a _ _ => decide (0x40 ≤ a ∧ a ≤ 0x7F)
  | .rsvd80toFF a _ _ => decide (0x80 ≤ a)

end Sys2Proof
end

