-- ==== Sys2Proof/Decode.lean ====
section
/-! DEFINITION. Decode.lean: from wire bytes to a command and back (spec/30_encoding.md R80 to R85,
spec/opcode_table.json). -/

namespace Sys2Proof

/-- Why bytes are no transaction. There is one reason: fewer than three bytes (R80, R85). Every address has a row
(R84), so no complete transaction is refused. -/
inductive DecodeError where
  /-- The transaction is cut off after `n` bytes, n less than 3. -/
  | cutOff (n : Nat)
  deriving DecidableEq, Repr

/-- The command whose row holds the address `a`; only field a selects the command (R81, R84). -/
def decodeXfer (a d p : Byte) : Instr :=
  if a = 0x00 then .rsvd00 d p
  else if a = 0x01 then .setmask d p
  else if a = 0x02 then .getmask d p
  else if a = 0x03 then .auxtog d p
  else if a = 0x04 then .getver d p
  else if a = 0x05 then .bootld d p
  else if a = 0x06 then .gethw d p
  else if a = 0x07 then .rsvd07 d p
  else if a ≤ 0x0F then .rsvd08to0F a d p
  else if a = 0x10 then .getadc0 d p
  else if a = 0x11 then .getadc1 d p
  else if a = 0x12 then .getadc2 d p
  else if a = 0x13 then .getadc3 d p
  else if a = 0x14 then .getadc4 d p
  else if a = 0x15 then .getadc5 d p
  else if a = 0x16 then .getadc6 d p
  else if a = 0x17 then .getadc7 d p
  else if a ≤ 0x1F then .rsvd18to1F a d p
  else if a ≤ 0x3F then .rsvd20to3F a d p
  else if a ≤ 0x7F then .rsvd40to7F a d p
  else .rsvd80toFF a d p

/-- The command at the head of a byte stream, in the order the bytes cross the bus, and the bytes after it. -/
def decode : List Byte → Except DecodeError (Instr × List Byte)
  | a :: d :: p :: rest => .ok (decodeXfer a d p, rest)
  | bytes => .error (.cutOff bytes.length)

/-- Wire byte 1, the address (R82). -/
def Instr.address : Instr → Byte
  | .setmask _ _ => 0x01
  | .getmask _ _ => 0x02
  | .auxtog _ _ => 0x03
  | .getver _ _ => 0x04
  | .bootld _ _ => 0x05
  | .gethw _ _ => 0x06
  | .getadc0 _ _ => 0x10
  | .getadc1 _ _ => 0x11
  | .getadc2 _ _ => 0x12
  | .getadc3 _ _ => 0x13
  | .getadc4 _ _ => 0x14
  | .getadc5 _ _ => 0x15
  | .getadc6 _ _ => 0x16
  | .getadc7 _ _ => 0x17
  | .rsvd00 _ _ => 0x00
  | .rsvd07 _ _ => 0x07
  | .rsvd08to0F a _ _ => a
  | .rsvd18to1F a _ _ => a
  | .rsvd20to3F a _ _ => a
  | .rsvd40to7F a _ _ => a
  | .rsvd80toFF a _ _ => a

/-- Wire bytes 2 and 3 (R81, fields d and p). -/
def Instr.data : Instr → Byte × Byte
  | .setmask d p | .getmask d p | .auxtog d p | .getver d p | .bootld d p | .gethw d p => (d, p)
  | .getadc0 d p | .getadc1 d p | .getadc2 d p | .getadc3 d p => (d, p)
  | .getadc4 d p | .getadc5 d p | .getadc6 d p | .getadc7 d p => (d, p)
  | .rsvd00 d p | .rsvd07 d p => (d, p)
  | .rsvd08to0F _ d p | .rsvd18to1F _ d p | .rsvd20to3F _ d p => (d, p)
  | .rsvd40to7F _ d p | .rsvd80toFF _ d p => (d, p)

/-- The three wire bytes of a command, first byte first (R80). -/
def encode (i : Instr) : List Byte := [i.address, i.data.1, i.data.2]

/-- The 24-bit word T = m_1 ++ m_2 ++ m_3 of a command (R81). -/
def encodeWord (i : Instr) : BitVec 24 := i.address ++ i.data.1 ++ i.data.2

/-- The three wire bytes of a word T: m_1 is bits 23:16, m_2 bits 15:8, m_3 bits 7:0 (R81). -/
def wireBytes (w : Nat) : List Byte := [BitVec.ofNat 8 (w / 65536), BitVec.ofNat 8 (w / 256), BitVec.ofNat 8 w]

/-- The instruction the decoder reads from an opcode-table word. The table numbers a transaction as one 24-bit word with
the address in bits 23:16 (R81), and the block receives that byte first. A word of more than 24 bits is no row's. -/
def decodeTableWord (nbits w : Nat) : Option Instr :=
  if 24 < nbits then none
  else
    match decode (wireBytes (w % 2 ^ nbits)) with
    | .ok (i, _) => some i
    | .error _ => none

end Sys2Proof
end

