-- ==== Sys2Proof/Machine/Input.lean ====
section
/-! DEFINITION. Machine/Input.lean: the events of spec/00_scope.md R7 and the inputs a schedule holds (spec/30_encoding.md R86,
spec/60_exceptions.md R233). -/

namespace Sys2Proof.Machine

/-- The events the block steps on (R7), with the arguments R7 gives them. A raw level is true for 1, the deasserted level
(R8). -/
inductive Event where
  | tick (btnRaw peerRaw : Bool)
  | spiByte (cs : Bool) (rx : Byte)
  | spiDeselect
  | adcDone (v : Sample)
  | wake
  | fgPass
  | fgPdSleep
  | reset
  deriving DecidableEq, Repr

/-- The names of what has a precondition: the events (R7) but RESET, which has none (R260), and the watchdog as a source of
RESET (R233). -/
inductive EventKind where
  | tick
  | spiByte
  | spiDeselect
  | adcDone
  | wake
  | fgPass
  | fgPdSleep
  | watchdog
  deriving DecidableEq, Repr

/-- One entry of the schedule: an event; a whole transaction, which spec/30_encoding.md R86 writes XFER: three SPI_BYTE events
with cs = 1 and no event between them; or the watchdog as the source of a RESET (R233, R247). The event RESET stands for every
other cause (R260). -/
inductive Input where
  | event (e : Event)
  | xfer (m1 m2 m3 : Byte)
  | watchdog
  deriving DecidableEq, Repr

end Sys2Proof.Machine
end

