-- ==== Sys2Proof/Config.lean ====
section
/-! DEFINITION. Config.lean: the implementation parameters of spec/00_scope.md R6, and the free values of what the
block's lines do after it has entered the bootloader (spec/42_spi_responder.md R157, spec/93_implementation_defined.md U4), of
the parameters R6 marks OPEN, and of the watchdog's policy (spec/60_exceptions.md R247). -/

namespace Sys2Proof.Config

/-- The parameters of a build (R6). They are constants of the build, not registers (R48): no event writes them.
`tickHz` is read by no rule (R6, R107). WDT_POLICY, a predicate on the event history, is `wdtPolicy` below. BOOT_SETTLE,
SPI_MODE and SPI_BIT_ORDER, which R6 calls not modelled and no rule reads, are not carried (notes/assumptions/17.md). -/
structure Params where
  /-- W, the width of each debounce register, 1 to 16. -/
  w : Nat
  /-- N_CH, the number of analog channels, 1 to 8. -/
  nCh : Nat
  /-- TIMER_W, the width of each signed timer, 2 to 64. -/
  timerW : Nat
  /-- TICK_HZ. -/
  tickHz : Nat
  /-- BUTTON_HOLD_TICKS. -/
  buttonHoldTicks : Nat
  /-- WAKEUP_TICKS. -/
  wakeupTicks : Nat
  /-- IDLE_ENABLE. -/
  idleEnable : Bool
  /-- IDLE_TICKS. -/
  idleTicks : Nat
  /-- TICK_IN_DEEP_SLEEP. -/
  tickInDeepSleep : Bool
  /-- MAJOR_VERSION. -/
  majorVersion : Byte
  /-- MINOR_VERSION. -/
  minorVersion : Byte
  /-- HW_VARIANT. -/
  hwVariant : Byte
  /-- WDT_PRESENT. -/
  wdtPresent : Bool
  deriving DecidableEq, Repr

/-- TIMER_MAX = 2^(TIMER_W - 1) - 1, the value at which a timer stops counting (R6). -/
def Params.timerMax (p : Params) : Int := 2 ^ (p.timerW - 1) - 1

/-- The legal ranges and the constraints of R6. -/
abbrev Params.Legal (p : Params) : Prop :=
  (1 ≤ p.w ∧ p.w ≤ 16) ∧ (1 ≤ p.nCh ∧ p.nCh ≤ 8) ∧ (2 ≤ p.timerW ∧ p.timerW ≤ 64) ∧ 0 < p.tickHz ∧
  (p.buttonHoldTicks : Int) ≤ p.timerMax ∧ (p.wakeupTicks : Int) ≤ p.timerMax ∧ (p.idleTicks : Int) ≤ p.timerMax

/-- The reference values of R6, which the spec uses in its test vectors and nowhere else. -/
def Params.reference : Params where
  w := 8
  nCh := 8
  timerW := 16
  tickHz := 1000
  buttonHoldTicks := 200
  wakeupTicks := 5000
  idleEnable := false
  idleTicks := 3000
  tickInDeepSleep := false
  majorVersion := 1
  minorVersion := 0
  hwVariant := 0
  wdtPresent := false

/-- N_CH of the build is 1 more than this modulo 8: any value of its range. Free value, notes/assumptions/1.md. -/
opaque openChannels : Nat

/-- TICK_HZ of the build is 1 more than this: any value of its range. Free value, notes/assumptions/1.md. -/
opaque openTickHz : Nat

/-- BUTTON_HOLD_TICKS of the build is this modulo TIMER_MAX + 1: any value of its range. Free value,
notes/assumptions/1.md. -/
opaque openButtonHoldTicks : Nat

/-- WAKEUP_TICKS of the build, likewise. Free value, notes/assumptions/1.md. -/
opaque openWakeupTicks : Nat

/-- IDLE_TICKS of the build, likewise. Free value, notes/assumptions/1.md. -/
opaque openIdleTicks : Nat

/-- TICK_IN_DEEP_SLEEP of the build. Free value, notes/assumptions/1.md. -/
opaque openTickInDeepSleep : Bool

/-- MAJOR_VERSION of the build. Free value, notes/assumptions/1.md. -/
opaque openMajorVersion : Byte

/-- MINOR_VERSION of the build. Free value, notes/assumptions/1.md. -/
opaque openMinorVersion : Byte

/-- HW_VARIANT of the build. Free value, notes/assumptions/1.md. -/
opaque openHwVariant : Byte

/-- The build of State.reset. A parameter R6 marks OPEN is a free value, any of its legal range, because the model must not fix
one. The four that are not OPEN (W, TIMER_W, IDLE_ENABLE, WDT_PRESENT) have the reference values: DESIGN CHOICE, unsafe for a claim
about State.reset alone (notes/assumptions/1.md). -/
def build : Params :=
  { Params.reference with
    nCh := openChannels % 8 + 1
    tickHz := openTickHz + 1
    buttonHoldTicks := openButtonHoldTicks % 2 ^ (Params.reference.timerW - 1)
    wakeupTicks := openWakeupTicks % 2 ^ (Params.reference.timerW - 1)
    idleTicks := openIdleTicks % 2 ^ (Params.reference.timerW - 1)
    tickInDeepSleep := openTickInDeepSleep
    majorVersion := openMajorVersion
    minorVersion := openMinorVersion
    hwVariant := openHwVariant }

/-- The watchdog's period is 1 more than this, in ticks, the only measure of time (R107): the watchdog does not fire while the
wdt_kick pulses keep coming within it (R247). Free value, notes/assumptions/16.md. -/
opaque wdtPeriod : Nat

/-- WDT_POLICY (R6, R247): whether a watchdog whose period has passed fires after the event history given, latest first. Any
predicate: free value, notes/assumptions/16.md. -/
opaque wdtPolicy : List Machine.Input → Bool

/-- The 1-bit output lines of R8. -/
inductive Line where
  | powerEnable
  | shutdownRequest
  | auxToggle
  | buttonIn
  | peerRunning
  | adcOn
  | spiOn
  deriving DecidableEq, Repr

/-- The level of a line at its n-th observation after the block has entered the bootloader: any value (R157, U4).
Free value, notes/assumptions/10.md. -/
opaque lineAfterHalt : Nat → Line → Bool

/-- The channel-select output at its n-th observation after the halt: any value (R157, U4).
Free value, notes/assumptions/10.md. -/
opaque adcSelAfterHalt : Nat → Option Chan

end Sys2Proof.Config
end

