-- ==== Sys2Proof/Machine/Bits.lean ====
section
/-! DEFINITION. Machine/Bits.lean: the bit-field helpers (spec/00_scope.md R10, spec/40_tick_debounce.md R108,
spec/20_memory.md R62). -/

namespace Sys2Proof.Machine

/-- ONES(n), the value whose low n bits are 1 (R10). -/
def ones (n : Nat) : MaskBits := BitVec.ofNat 16 (2 ^ n - 1)

/-- `((m << 1) | raw)[W-1:0]`: the new sample enters at bit 0 and bit W-1 is dropped (R101, R108). -/
def shiftIn (w : Nat) (m : MaskBits) (raw : Bool) : MaskBits :=
  ((m <<< 1) ||| (BitVec.ofBool raw).setWidth 16) &&& ones w

/-- v[7:0] (R62). -/
def lowByte (v : Sample) : Byte := v.extractLsb' 0 8

/-- v[15:8] (R62). -/
def highByte (v : Sample) : Byte := v.extractLsb' 8 8

end Sys2Proof.Machine
end

