-- ==== Sys2Proof/Machine/State.lean ====
section
/-! DEFINITION. Machine/State.lean: the registers of spec/10_state.md (R20 to R51), grouped by the component that owns
them (R20), and the state after reset (R50). -/

namespace Sys2Proof.Machine

/-- The power states of spec/30_encoding.md R90. `undefined n` is the register value 18 + n, which names no state. -/
inductive PowerState where
  | start
  | waitEntry
  | wait
  | buttonPress
  | buttonRelease
  | signaledOnEntry
  | signaledOn
  | mcuRunningEntry
  | mcuRunning
  | idleEntry
  | adcNoiseEntry
  | adcNoiseExit
  | signaledOffEntry
  | signaledOff
  | mcuOffEntry
  | mcuOff
  | powerDownEntry
  | powerDownExit
  | undefined (n : Fin 14)
  deriving DecidableEq, Repr

/-- Where the foreground loop stands (R29, R92). -/
inductive FgPhase where
  | run
  | pdArmed
  | lightSleep
  | deepSleep
  deriving DecidableEq, Repr

/-- The transaction progress counter (R36, R91). `reserved3` is the register value 3, never written and read as
`ExpectAddress`. -/
inductive Phase where
  | expectAddress
  | expectByte2
  | expectByte3
  | reserved3
  deriving DecidableEq, Repr

/-- The debounce registers (R21 to R23). -/
structure DebounceRegs where
  buttonMask : MaskBits
  peerMask   : MaskBits
  buttonIn   : Bool
  peerIn     : Bool
  deriving DecidableEq, Repr

/-- The three signed timers (R24): -1 is inactive. Integers, which R106 allows. -/
structure TimerRegs where
  wakeup : Int
  button : Int
  idle   : Int
  deriving DecidableEq, Repr

/-- The power FSM registers (R25 to R30). -/
structure PowerRegs where
  current         : PowerState
  previous        : PowerState
  powerEnable     : Bool
  shutdownRequest : Bool
  fgPhase         : FgPhase
  wakeArmed       : Bool
  wakePending     : Bool
  deriving DecidableEq, Repr

/-- The ADC sequencer registers (R31 to R35). `currentChannel = none` is the register value -1. -/
structure AdcRegs where
  channelMask    : Byte
  value          : Vector Sample 8
  currentChannel : Option Chan
  complete       : Bool
  enabled        : Bool
  deriving DecidableEq, Repr

/-- The SPI responder registers (R36 to R43). -/
structure SpiRegs where
  phase        : Phase
  addr         : Byte
  pending      : Byte
  tx           : Byte
  xferFlag     : Bool
  auxToggleReq : Bool
  bootReq      : Bool
  halted       : Bool
  enabled      : Bool
  auxDir       : Bool
  deriving DecidableEq, Repr

/-- The miso result of a transfer: a byte the block drives, or high impedance (R8, R140). -/
inductive Miso where
  | driven (b : Byte)
  | hiZ
  deriving DecidableEq, Repr

/-- What the block puts out during a step besides its levels: the miso of each SPI_BYTE, the adc_start pulse with the
channel it starts, the wdt_kick pulse (R8). -/
inductive Output where
  | miso (m : Miso)
  | adcStart (k : Chan)
  | wdtKick
  deriving DecidableEq, Repr

/-- The whole state. `debounce` to `spi` are the registers of spec/10_state.md. The model's own fields are `cfg` (the
build's parameters, notes/assumptions/1.md), `schedule` (the order in which events come, notes/assumptions/2.md), `outputs`
(what the latest step put out, notes/assumptions/6.md), and what the watchdog reads (notes/assumptions/16.md): `history`, the inputs
the steps have taken, latest first, and `sinceKick`, the ticks since the last wdt_kick or RESET, none once the block has been in
deep sleep, when it is not known how long ago that was. -/
structure State where
  cfg      : Config.Params
  debounce : DebounceRegs
  timers   : TimerRegs
  power    : PowerRegs
  adc      : AdcRegs
  spi      : SpiRegs
  schedule : List Input
  outputs  : List Output
  history  : List Input
  sinceKick : Option Nat
  deriving DecidableEq, Repr

/-- The one way the block stops for good (R230, R19). -/
inductive Fault where
  /-- Raised by every event but RESET when `halted = 1`: the block has entered the bootloader and has no further step
  (R157, U4 'stuck'). Safe: nothing is claimed of what happens after the halt. -/
  | halted
  deriving DecidableEq, Repr

/-- Why an event has no meaning where it is scheduled. -/
inductive Refusal where
  /-- Raised by exec's arm of an instruction that has no meaning yet. Safe. No arm of this model raises it. -/
  | notModelled (mnemonic : String)
  /-- Raised by an event whose precondition fails while `halted = 0`: the event has no step in that state, and the model
  must not let it occur there (R7, U18 'refuse'); and by the watchdog where it does not fire (R233). Safe: no claim covers such a sequence. -/
  | noStep (e : EventKind)
  deriving DecidableEq, Repr

/-- The outcome of an event, a transaction or a step. -/
abbrev Result := Host.Outcome State Fault Refusal

/-- The registers after RESET (R50) in a build with parameters `p`, with nothing scheduled, put out or taken. -/
def State.resetWith (p : Config.Params) : State where
  cfg := p
  debounce := { buttonMask := ones p.w, peerMask := ones p.w, buttonIn := false, peerIn := false }
  timers := { wakeup := -1, button := -1, idle := -1 }
  power :=
    { current := .start, previous := .start, powerEnable := false, shutdownRequest := false, fgPhase := .run,
      wakeArmed := false, wakePending := false }
  adc :=
    { channelMask := 0, value := Vector.replicate 8 0, currentChannel := none, complete := false, enabled := true }
  spi :=
    { phase := .expectAddress, addr := 0, pending := 0, tx := 0, xferFlag := false, auxToggleReq := false,
      bootReq := false, halted := false, enabled := true, auxDir := false }
  schedule := []
  outputs := []
  history := []
  sinceKick := some 0

/-- The machine right after reset (R50, R260), in the build `Config.build`, whose OPEN parameters are free values
(notes/assumptions/1.md). `State.resetWith` is the same state for a build that is given. -/
def State.reset : State := State.resetWith Config.build

end Sys2Proof.Machine
end

