-- ==== Sys2Proof/Machine/Flags.lean ====
section
/-! DEFINITION. Machine/Flags.lean: the setters and consumers of the 1-bit flags of spec/10_state.md R46. The block has
no arithmetic condition code (R46). -/

namespace Sys2Proof.Machine

/-- Every SPI_BYTE signals that a transfer happened, addressed to this block or not (R39, R140, R153). -/
def SpiRegs.signalTransfer (r : SpiRegs) : SpiRegs := { r with xferFlag := true }

/-- The one-shot transfer flag is consumed (R39, R161). -/
def SpiRegs.consumeTransfer (r : SpiRegs) : SpiRegs := { r with xferFlag := false }

/-- An AUXTOG request is recorded; the flag is one bit, so requests merge (R40, R147, R270). -/
def SpiRegs.requestToggle (r : SpiRegs) : SpiRegs := { r with auxToggleReq := true }

/-- A recorded toggle request is performed: the pin's direction is inverted once (R43, R161). -/
def SpiRegs.performToggle (r : SpiRegs) : SpiRegs :=
  if r.auxToggleReq then { r with auxToggleReq := false, auxDir := !r.auxDir } else r

/-- A BOOTLD request is recorded (R41, R149). -/
def SpiRegs.requestBoot (r : SpiRegs) : SpiRegs := { r with bootReq := true }

/-- A recorded bootloader request is performed: the block halts (R41, R157, R161). -/
def SpiRegs.performBoot (r : SpiRegs) : SpiRegs := if r.bootReq then { r with halted := true } else r

/-- The wake source is armed with nothing pending (R30, R199). -/
def PowerRegs.armWake (r : PowerRegs) : PowerRegs := { r with wakeArmed := true, wakePending := false }

/-- The wake source is disarmed and nothing stays pending (R30, R200, D18). -/
def PowerRegs.disarmWake (r : PowerRegs) : PowerRegs := { r with wakeArmed := false, wakePending := false }

/-- A conversion is complete and the sequencer has not chosen the next channel (R34, R120). -/
def AdcRegs.signalComplete (r : AdcRegs) : AdcRegs := { r with complete := true }

/-- The converter is busy (R34, R120). -/
def AdcRegs.busy (r : AdcRegs) : Bool := r.enabled && r.currentChannel.isSome && !r.complete

end Sys2Proof.Machine
end

