-- ==== Sys2Proof/Machine/Operands.lean ====
section
/-! DEFINITION. Machine/Operands.lean: the operand forms (spec/30_encoding.md R83) and the number codes of the enumerated
registers (R90 to R93). -/

namespace Sys2Proof.Machine

/-- The channels 0 to 7 in increasing order; a build uses those below N_CH. -/
def channels : List Chan := [0, 1, 2, 3, 4, 5, 6, 7]

/-- The bus address of channel k, 0x10 + k (R82). -/
def adcAddress (k : Chan) : Byte := BitVec.ofNat 8 (16 + k.val)

/-- The channel a GETADC address names: k = a - 0x10, only when 0x10 <= a < 0x10 + N_CH (R83, R144). -/
def channelOf (p : Config.Params) (a : Byte) : Option Chan :=
  channels.find? fun k => decide (k.val < p.nCh) && decide (a = adcAddress k)

/-- Bit k of the effective mask, the low N_CH bits of `channel_mask` (R31, R126). -/
def requested (p : Config.Params) (m : Byte) (k : Chan) : Bool := m.getLsbD k.val && decide (k.val < p.nCh)

/-- Whether the state is one of the four steady states, which `goto` records in `previous` (R90, R182). -/
def PowerState.steady : PowerState → Bool
  | .wait => true
  | .signaledOn => true
  | .mcuRunning => true
  | .signaledOff => true
  | _ => false

/-- The register value of a power state (R90). -/
def PowerState.code : PowerState → BitVec 5
  | .start => 0
  | .waitEntry => 1
  | .wait => 2
  | .buttonPress => 3
  | .buttonRelease => 4
  | .signaledOnEntry => 5
  | .signaledOn => 6
  | .mcuRunningEntry => 7
  | .mcuRunning => 8
  | .idleEntry => 9
  | .adcNoiseEntry => 10
  | .adcNoiseExit => 11
  | .signaledOffEntry => 12
  | .signaledOff => 13
  | .mcuOffEntry => 14
  | .mcuOff => 15
  | .powerDownEntry => 16
  | .powerDownExit => 17
  | .undefined n => BitVec.ofNat 5 (18 + n.val)

/-- The power states that have a name, in the order R90 numbers them. -/
def namedPowerStates : List PowerState :=
  [.start, .waitEntry, .wait, .buttonPress, .buttonRelease, .signaledOnEntry, .signaledOn, .mcuRunningEntry,
    .mcuRunning, .idleEntry, .adcNoiseEntry, .adcNoiseExit, .signaledOffEntry, .signaledOff, .mcuOffEntry, .mcuOff,
    .powerDownEntry, .powerDownExit]

/-- The power state of a register value: 0 to 17 name the eighteen states, 18 to 31 name nothing (R90). -/
def PowerState.ofCode (c : BitVec 5) : PowerState :=
  match namedPowerStates[c.toNat]? with
  | some S => S
  | none => .undefined (Fin.ofNat 14 (c.toNat - 18))

/-- The register value of `phase` (R91). -/
def Phase.code : Phase → BitVec 2
  | .expectAddress => 0
  | .expectByte2 => 1
  | .expectByte3 => 2
  | .reserved3 => 3

/-- Whether a byte is taken as an address: in `ExpectAddress`, and in the value 3, which reads as it (R91). -/
def Phase.expectsAddress : Phase → Bool
  | .expectAddress => true
  | .expectByte2 => false
  | .expectByte3 => false
  | .reserved3 => true

/-- The register value of `fg_phase` (R92). -/
def FgPhase.code : FgPhase → BitVec 2
  | .run => 0
  | .pdArmed => 1
  | .lightSleep => 2
  | .deepSleep => 3

/-- The signed value of `current_channel`: -1 when no conversion is in flight (R33, R93). -/
def AdcRegs.channelValue (a : AdcRegs) : Int :=
  match a.currentChannel with
  | some k => k.val
  | none => -1

/-- The kind of an event, for the events that have a precondition. -/
def Event.kind? : Event → Option EventKind
  | .tick _ _ => some .tick
  | .spiByte _ _ => some .spiByte
  | .spiDeselect => some .spiDeselect
  | .adcDone _ => some .adcDone
  | .wake => some .wake
  | .fgPass => some .fgPass
  | .fgPdSleep => some .fgPdSleep
  | .reset => none

end Sys2Proof.Machine
end

