-- ==== Sys2Proof/Machine/Ops.lean ====
section
/-! DEFINITION. Machine/Ops.lean: the operations the event rules share: preconditions (spec/00_scope.md R7), the
register accesses of the bus (spec/20_memory.md R64, R65), the reading of the filters and timers (spec/00_scope.md R13,
spec/43_power_fsm.md R181), `goto` (R182), waking (R217) and the output lines (R8).
The block takes no exception and returns from none (spec/60_exceptions.md R230, R237, R238); what stands in their place
is `recoverToStart` (R215, error class (d) of R231) and the event RESET (error class (e)). -/

namespace Sys2Proof.Machine

/-- Continue with `f` after a step that answered a next state. -/
def andThen (r : Result) (f : State → Result) : Result :=
  match r with
  | .next t => f t
  | .fault e => .fault e
  | .refused e => .refused e

/-- An event's step: `t` when its precondition holds, otherwise no step (R7). After the halt no event but RESET has a
step (R157, U4). -/
def whenEnabled (k : EventKind) (enabled : Bool) (s t : State) : Result :=
  if s.spi.halted then .fault .halted else if enabled then .next t else .refused (.noStep k)

/-- Add what this event puts out. -/
def State.emit (s : State) (o : Output) : State := { s with outputs := s.outputs ++ [o] }

/-- The pulse wdt_kick (R8, R247): it is put out, and the watchdog's period begins anew. -/
def State.kickWatchdog (s : State) : State := ({ s with sinceKick := some 0 }).emit .wdtKick

/-- A new step begins: it takes the input `x`, the schedule's rest remains, and the outputs are those of the new step. -/
def State.beginStep (s : State) (x : Input) (rest : List Input) : State :=
  { s with schedule := rest, outputs := [], history := x :: s.history }

/-! ## Reading the filters and the timers -/

/-- The tri-state reading of a debounce register (R13). -/
inductive Reading where
  | asserted
  | released
  | bouncing
  deriving DecidableEq, Repr

/-- `db(m)`: Asserted if m = 0, Released if m = ONES(W), Bouncing otherwise (R13). -/
def db (w : Nat) (m : MaskBits) : Reading :=
  if m = 0 then .asserted else if m = ones w then .released else .bouncing

/-- The button's reading at the top of a pass (R181). -/
def State.btn (s : State) : Reading := db s.cfg.w s.debounce.buttonMask

/-- The peer line's reading at the top of a pass (R181). -/
def State.peer (s : State) : Reading := db s.cfg.w s.debounce.peerMask

/-- A timer is expired when t >= TH, signed (R181, D9). -/
def expired (t : Int) (threshold : Nat) : Bool := decide ((threshold : Int) ≤ t)

/-- All three timers disarmed (R183, R197). -/
def TimerRegs.stopped : TimerRegs := { wakeup := -1, button := -1, idle := -1 }

/-! ## The power FSM's transfers -/

/-- `goto(S)`: `previous` records the state left when it is steady (R182). -/
def PowerRegs.goto (r : PowerRegs) (S : PowerState) : PowerRegs :=
  { r with previous := if r.current.steady then r.current else r.previous, current := S }

/-- `goto(S)` on the whole state (R182). -/
def State.goto (s : State) (S : PowerState) : State := { s with power := s.power.goto S }

/-- `current <- Start`, the recovery from a state no rule can go on from; nothing else is written (R187, R215). -/
def State.recoverToStart (s : State) : State := { s with power := { s.power with current := .start } }

/-- An event that has a step ends the light sleep (R217). -/
def PowerRegs.wakeLight (r : PowerRegs) : PowerRegs :=
  { r with fgPhase := if r.fgPhase = .lightSleep then .run else r.fgPhase }

/-- An event that has a step ends the light sleep (R217). -/
def State.wakeLight (s : State) : State := { s with power := s.power.wakeLight }

/-! ## The register file as the bus sees it -/

/-- `classify(a)` (R144), which is MemRead (R64): the response bytes (s_2, s_3) of address `a`. -/
def classify (p : Config.Params) (r : AdcRegs) (a : Byte) : Byte × Byte :=
  if a = 0x01 then (0, 0)
  else if a = 0x02 then (r.channelMask, 0)
  else if a = 0x03 then (0, 0)
  else if a = 0x04 then (p.majorVersion, p.minorVersion)
  else if a = 0x05 then (0, 0)
  else if a = 0x06 then (p.hwVariant, 0)
  else
    match channelOf p a with
    | some k => (lowByte r.value[k], highByte r.value[k])
    | none => (0, 0)

/-- MemRead(a, n) (R64): what a bus read of address `a` answers in state `s`. -/
def memRead (s : State) (a : Byte) : Byte × Byte := classify s.cfg s.adc a

/-- MemWrite(0x01, 1, v) (R65), the only bus write: all 8 bits of `channel_mask` at once. -/
def AdcRegs.writeMask (r : AdcRegs) (v : Byte) : AdcRegs := { r with channelMask := v }

/-- `adc_value[k] <- v` (R12, R32). A slot at or above N_CH does not exist, so nothing is written there (R261). -/
def AdcRegs.writeValue (p : Config.Params) (r : AdcRegs) (k : Chan) (v : Sample) : AdcRegs :=
  if k.val < p.nCh then { r with value := r.value.set k.val v } else r

/-! ## The output lines -/

/-- The level of an output line (R8), `n` counting the observations. After the halt it is any value (R157, U4). -/
def State.line (s : State) (n : Nat) (l : Config.Line) : Bool :=
  if s.spi.halted then Config.lineAfterHalt n l
  else
    match l with
    | .powerEnable => s.power.powerEnable
    | .shutdownRequest => s.power.shutdownRequest
    | .auxToggle => s.spi.auxDir
    | .buttonIn => s.debounce.buttonIn
    | .peerRunning => s.debounce.peerIn
    | .adcOn => s.adc.enabled
    | .spiOn => s.spi.enabled

/-- The channel-select output `adc_sel`, which is `current_channel` (R8, R129); any value after the halt (R157, U4). -/
def State.adcSel (s : State) (n : Nat) : Option Chan :=
  if s.spi.halted then Config.adcSelAfterHalt n else s.adc.currentChannel

end Sys2Proof.Machine
end

