-- ==== Sys2Proof/Machine/Adc.lean ====
section
/-! DEFINITION. Machine/Adc.lean: the round-robin channel sequencer: ADC_DONE, the searches, `adc_pass` and the sleep hooks
(spec/41_adc_sequencer.md R120 to R129). -/

namespace Sys2Proof.Machine

/-- `first_channel(m)`: the least requested channel, none for -1 (R121). -/
def firstChannel (p : Config.Params) (m : Byte) : Option Chan := channels.find? (requested p m)

/-- `next_channel(m, c)`: the least requested channel strictly after c, else the least requested channel (R122). -/
def nextChannel (p : Config.Params) (m : Byte) (c : Chan) : Option Chan :=
  match channels.find? (fun k => decide (c < k) && requested p m k) with
  | some k => some k
  | none => firstChannel p m

/-- Starting a conversion on channel k: `adc_sel` takes k and `adc_start` pulses once (R129). -/
def State.startConversion (s : State) (k : Chan) : State :=
  ({ s with adc := { s.adc with currentChannel := some k } }).emit (.adcStart k)

/-- Take the channel a search found: start a conversion on it, or be idle when there is none (R123, R125). -/
def State.select (s : State) (found : Option Chan) : State :=
  match found with
  | some k => s.startConversion k
  | none => { s with adc := { s.adc with currentChannel := none } }

/-- The value table with the slots of the channels that are not requested zeroed (R124). A slot at or above N_CH does not
exist and is left as it is. -/
def zeroUnrequested (p : Config.Params) (m : Byte) (value : Vector Sample 8) : Vector Sample 8 :=
  Vector.ofFn fun k : Chan => if decide (k.val < p.nCh) && !m.getLsbD k.val then 0 else value[k]

/-- `next_channel(m, current_channel)` (R123). With `current_channel` = -1, which cannot occur here in a run (R49), the
loop of R122 starts at index 0: it is the search of `first_channel`. -/
def State.successor (s : State) : Option Chan :=
  match s.adc.currentChannel with
  | some c => nextChannel s.cfg s.adc.channelMask c
  | none => firstChannel s.cfg s.adc.channelMask

/-- The completion branch (R123). -/
def State.adcComplete (s : State) : State := ({ s with adc := { s.adc with complete := false } }).select s.successor

/-- Zeroing (R124). -/
def State.adcZero (s : State) : State :=
  { s with adc := { s.adc with value := zeroUnrequested s.cfg s.adc.channelMask s.adc.value } }

/-- Start if idle: nothing happens when a conversion is in flight or nothing is requested (R125). -/
def State.adcStartIfIdle (s : State) : State :=
  if s.adc.currentChannel = none then s.select (firstChannel s.cfg s.adc.channelMask) else s

/-- `adc_pass` (R126). -/
def State.adcPass (s : State) : State :=
  if s.adc.enabled then
    if s.adc.complete then s.adcComplete else s.adcZero.adcStartIfIdle
  else s

/-- `adc_presleep` (R127). -/
def AdcRegs.presleep (r : AdcRegs) : AdcRegs := { r with enabled := false }

/-- `adc_postsleep` (R128): the conversion in flight is discarded; the mask and the table survive. -/
def AdcRegs.postsleep (r : AdcRegs) : AdcRegs := { r with enabled := true, currentChannel := none, complete := false }

/-- The store of a conversion result in the slot of the channel in flight, whether or not it is still requested (R120). -/
def AdcRegs.store (p : Config.Params) (r : AdcRegs) (v : Sample) : AdcRegs :=
  match r.currentChannel with
  | some k => r.writeValue p k v
  | none => r

/-- What ADC_DONE does (R120, R217). -/
def State.conversionDone (s : State) (v : Sample) : State :=
  ({ s with adc := (s.adc.store s.cfg v).signalComplete }).wakeLight

/-- ADC_DONE(v) (R120): it has a step while the converter is busy. -/
def eventAdcDone (v : Sample) (s : State) : Result := whenEnabled .adcDone s.adc.busy s (s.conversionDone v)

end Sys2Proof.Machine
end

