-- ==== Sys2Proof/Machine/Spi.lean ====
section
/-! DEFINITION. Machine/Spi.lean: the 3-byte register responder: SPI_BYTE, SPI_DESELECT, `spi_pass` and the sleep hooks
(spec/42_spi_responder.md R140 to R163). -/

namespace Sys2Proof.Machine

/-- The transaction state of the responder as a pure function (R155). -/
structure TransactionState where
  phase   : Phase
  addr    : Byte
  pending : Byte
  deriving DecidableEq, Repr

/-- The side effect of a byte (R155). -/
inductive SideEffect where
  | none
  | writeMask (d : Byte)
  | requestToggle
  | requestBoot
  deriving DecidableEq, Repr

/-- What the responder answers to a byte (R155). -/
structure ByteResult where
  state    : TransactionState
  response : Byte
  effect   : SideEffect
  deriving DecidableEq, Repr

/-- The side effect taken when an address is classified (R141, R147, R149). -/
def addressEffect (a : Byte) : SideEffect :=
  if a = 0x03 then .requestToggle else if a = 0x05 then .requestBoot else .none

/-- Wire byte 1: both response bytes are fixed here (R141). -/
def onAddress (p : Config.Params) (r : AdcRegs) (rx : Byte) : ByteResult where
  state := { phase := .expectByte2, addr := rx, pending := (classify p r rx).2 }
  response := (classify p r rx).1
  effect := addressEffect rx

/-- Wire byte 2: the mask is written here, for address 0x01 only (R142). -/
def onByte2 (t : TransactionState) (rx : Byte) : ByteResult where
  state := { t with phase := .expectByte3 }
  response := t.pending
  effect := if t.addr = 0x01 then .writeMask rx else .none

/-- Wire byte 3: the transaction ends; the byte is ignored and `tx` is loaded with 0 (R143, D22). -/
def onByte3 (t : TransactionState) : ByteResult where
  state := { t with phase := .expectAddress }
  response := 0
  effect := .none

/-- `onByteReceived(state, byte) -> (state, responseByte, sideEffect)` (R155), by the phase (R140); `phase = 3` reads as
`ExpectAddress` (R91). -/
def onByteReceived (p : Config.Params) (r : AdcRegs) (t : TransactionState) (rx : Byte) : ByteResult :=
  match t.phase with
  | .expectAddress => onAddress p r rx
  | .reserved3 => onAddress p r rx
  | .expectByte2 => onByte2 t rx
  | .expectByte3 => onByte3 t

/-- The transaction state held in the registers (R155). -/
def SpiRegs.transaction (r : SpiRegs) : TransactionState := { phase := r.phase, addr := r.addr, pending := r.pending }

/-- The registers after the responder's answer: transaction state and `tx` (R141 to R143). -/
def SpiRegs.load (r : SpiRegs) (b : ByteResult) : SpiRegs :=
  { r with phase := b.state.phase, addr := b.state.addr, pending := b.state.pending, tx := b.response }

/-- The side effect of a byte on the state (R155). -/
def State.perform (s : State) (e : SideEffect) : State :=
  match e with
  | .none => s
  | .writeMask d => { s with adc := s.adc.writeMask d }
  | .requestToggle => { s with spi := s.spi.requestToggle }
  | .requestBoot => { s with spi := s.spi.requestBoot }

/-- A byte with the gate asserted (R141 to R143). -/
def State.receive (s : State) (rx : Byte) : State :=
  let b := onByteReceived s.cfg s.adc s.spi.transaction rx
  ({ s with spi := s.spi.load b }).perform b.effect

/-- The miso of a transfer: the `tx` loaded before it, or high impedance when the gate is not asserted (R140, R153, R154).
The value during wire byte 1 is outside the contract (U3, notes/assumptions/9.md). -/
def State.misoByte (s : State) (cs : Bool) : Miso := if cs then .driven s.spi.tx else .hiZ

/-- What SPI_BYTE does (R140, R153, R217). -/
def State.transfer (s : State) (cs : Bool) (rx : Byte) : State :=
  let t := ({ s with spi := s.spi.signalTransfer }).emit (.miso (s.misoByte cs))
  (if cs then t.receive rx else t).wakeLight

/-- SPI_BYTE(cs, rx) (R140). -/
def eventSpiByte (cs : Bool) (rx : Byte) (s : State) : Result :=
  whenEnabled .spiByte s.spi.enabled s (s.transfer cs rx)

/-- What SPI_DESELECT does: only the progress counter moves (R160, R217). -/
def State.deselect (s : State) : State := ({ s with spi := { s.spi with phase := .expectAddress } }).wakeLight

/-- SPI_DESELECT (R160). -/
def eventSpiDeselect (s : State) : Result := whenEnabled .spiDeselect s.spi.enabled s s.deselect

/-- `spi_pass`: consume the transfer flag, perform a requested toggle, then enter a requested bootloader (R161, R157). -/
def State.spiPass (s : State) : State := { s with spi := s.spi.consumeTransfer.performToggle.performBoot }

/-- `spi_presleep` (R162). -/
def SpiRegs.presleep (r : SpiRegs) : SpiRegs := { r with enabled := false }

/-- `spi_postsleep` (R163): a partial transaction is discarded; `tx` is left as it was. -/
def SpiRegs.postsleep (r : SpiRegs) : SpiRegs := { r with enabled := true, phase := .expectAddress }

end Sys2Proof.Machine
end

