-- ==== Sys2Proof/Machine/Power.lean ====
section
/-! DEFINITION. Machine/Power.lean: the dispatch of each power state, the foreground pass, the check-then-sleep and WAKE
(spec/43_power_fsm.md R180 to R217). -/

namespace Sys2Proof.Machine

/-- `Start` (R183). -/
def dispatchStart (s : State) : State := ({ s with timers := TimerRegs.stopped }).goto .waitEntry

/-- `WaitEntry` (R184). -/
def dispatchWaitEntry (s : State) : State :=
  ({ s with
      power := { s.power with powerEnable := false, shutdownRequest := false }
      timers := { s.timers with wakeup := 0 } }).goto .wait

/-- `Wait`: the button is tested before the wake timer (R185). -/
def dispatchWait (s : State) : State :=
  if s.btn = .asserted then s.goto .buttonPress
  else if expired s.timers.wakeup s.cfg.wakeupTicks then s.goto .mcuOffEntry
  else s

/-- `ButtonPress` (R186). -/
def dispatchButtonPress (s : State) : State := ({ s with timers := { s.timers with button := 0 } }).goto .buttonRelease

/-- Where a released press goes: by the context it interrupted and by whether it was long (R187). -/
def pressTarget (context : PowerState) (long : Bool) : Option PowerState :=
  match context with
  | .wait => some (if long then .signaledOnEntry else .waitEntry)
  | .signaledOn => some (if long then .mcuOffEntry else .signaledOnEntry)
  | .mcuRunning => some (if long then .signaledOffEntry else .mcuRunningEntry)
  | _ => none

/-- `ButtonRelease`: nothing happens until the line is stably released; a context that is none of the three recovers to
`Start` (R187). -/
def dispatchButtonRelease (s : State) : State :=
  if s.btn = .released then
    let t := { s with timers := { s.timers with button := -1 } }
    match pressTarget s.power.previous (expired s.timers.button s.cfg.buttonHoldTicks) with
    | some S => t.goto S
    | none => t.recoverToStart
  else s

/-- `SignaledOnEntry` (R188). -/
def dispatchSignaledOnEntry (s : State) : State :=
  ({ s with
      power := { s.power with powerEnable := true }
      timers := { s.timers with wakeup := -1 } }).goto .signaledOn

/-- `SignaledOn`: the peer is tested before the button; there is no timeout (R189). -/
def dispatchSignaledOn (s : State) : State :=
  if s.peer = .asserted then s.goto .mcuRunningEntry
  else if s.btn = .asserted then s.goto .buttonPress
  else s

/-- `MCURunningEntry` (R190). -/
def dispatchMcuRunningEntry (s : State) : State :=
  (if s.cfg.idleEnable then { s with timers := { s.timers with idle := 0 } } else s).goto .mcuRunning

/-- `MCURunning`: button, then peer, then idle timer; every exit disarms the idle timer (R191). -/
def dispatchMcuRunning (s : State) : State :=
  let t := { s with timers := { s.timers with idle := -1 } }
  if s.btn = .asserted then t.goto .buttonPress
  else if s.peer = .released then t.goto .mcuOffEntry
  else if s.cfg.idleEnable && expired s.timers.idle s.cfg.idleTicks then t.goto .idleEntry
  else s

/-- `IdleEntry` (R192). -/
def dispatchIdleEntry (s : State) : State := s.goto .adcNoiseEntry

/-- `ADCNoiseEntry`: enters the light sleep; `current` is written directly (R193). -/
def dispatchAdcNoiseEntry (s : State) : State :=
  { s with power := { s.power with current := .adcNoiseExit, fgPhase := .lightSleep } }

/-- `ADCNoiseExit` (R194). -/
def dispatchAdcNoiseExit (s : State) : State := s.goto .mcuRunningEntry

/-- `SignaledOffEntry` (R195). -/
def dispatchSignaledOffEntry (s : State) : State :=
  ({ s with power := { s.power with shutdownRequest := true } }).goto .signaledOff

/-- `SignaledOff`: waits for the peer to drop; the button is not read and there is no timeout (R196). -/
def dispatchSignaledOff (s : State) : State :=
  if s.peer = .released then ({ s with power := { s.power with shutdownRequest := false } }).goto .mcuOffEntry else s

/-- `MCUOffEntry` (R197). -/
def dispatchMcuOffEntry (s : State) : State :=
  ({ s with
      power := { s.power with powerEnable := false }
      timers := TimerRegs.stopped }).goto .mcuOff

/-- `MCUOff` (R198). -/
def dispatchMcuOff (s : State) : State := s.goto .powerDownEntry

/-- `PowerDownEntry`, first half: arm the wake source, run the pre-sleep hooks, suspend the pass; `current` stays (R199). -/
def dispatchPowerDownEntry (s : State) : State :=
  { s with
    power := { s.power.armWake with fgPhase := .pdArmed }
    adc := s.adc.presleep
    spi := s.spi.presleep }

/-- `PowerDownExit`: the post-sleep hooks, the wake source disarmed, the wake timer re-armed (R200). -/
def dispatchPowerDownExit (s : State) : State :=
  ({ s with
      spi := s.spi.postsleep
      adc := s.adc.postsleep
      power := s.power.disarmWake
      timers := { s.timers with wakeup := 0 } }).goto .waitEntry

/-- A register value that names no state: `current <- Start` and nothing else (R215). -/
def dispatchUndefined (s : State) : State := s.recoverToStart

/-- The dispatch of the one state held in `current` (R180). -/
def dispatch (s : State) : State :=
  match s.power.current with
  | .start => dispatchStart s
  | .waitEntry => dispatchWaitEntry s
  | .wait => dispatchWait s
  | .buttonPress => dispatchButtonPress s
  | .buttonRelease => dispatchButtonRelease s
  | .signaledOnEntry => dispatchSignaledOnEntry s
  | .signaledOn => dispatchSignaledOn s
  | .mcuRunningEntry => dispatchMcuRunningEntry s
  | .mcuRunning => dispatchMcuRunning s
  | .idleEntry => dispatchIdleEntry s
  | .adcNoiseEntry => dispatchAdcNoiseEntry s
  | .adcNoiseExit => dispatchAdcNoiseExit s
  | .signaledOffEntry => dispatchSignaledOffEntry s
  | .signaledOff => dispatchSignaledOff s
  | .mcuOffEntry => dispatchMcuOffEntry s
  | .mcuOff => dispatchMcuOff s
  | .powerDownEntry => dispatchPowerDownEntry s
  | .powerDownExit => dispatchPowerDownExit s
  | .undefined _ => dispatchUndefined s

/-- The rest of a pass that the dispatch did not suspend: sequencer, responder, watchdog pulse (R180). -/
def State.finishPass (s : State) : State := s.adcPass.spiPass.kickWatchdog

/-- What FG_PASS does: one dispatch, then the rest of the pass unless the dispatch suspended the foreground (R180). -/
def State.foregroundPass (s : State) : State :=
  if (dispatch s).power.fgPhase = .run then (dispatch s).finishPass else dispatch s

/-- FG_PASS (R180). -/
def eventFgPass (s : State) : Result := whenEnabled .fgPass (decide (s.power.fgPhase = .run)) s s.foregroundPass

/-- What FG_PD_SLEEP does: check the pending wake and sleep only if there is none, in one step (R213, R71). In the deep sleep no
time is counted (R247, N8; notes/assumptions/16.md). -/
def State.checkThenSleep (s : State) : State :=
  { s with
    power :=
      { s.power with
        current := .powerDownExit
        fgPhase := if s.power.wakePending then .run else .deepSleep }
    sinceKick := if s.power.wakePending then s.sinceKick else none }

/-- FG_PD_SLEEP (R213). -/
def eventFgPdSleep (s : State) : Result :=
  whenEnabled .fgPdSleep (decide (s.power.fgPhase = .pdArmed)) s s.checkThenSleep

/-- What WAKE does: it is flagged, and it ends a deep sleep (R216). -/
def State.wakeUp (s : State) : State :=
  { s with
    power :=
      { s.power with
        wakePending := true
        fgPhase := if s.power.fgPhase = .deepSleep then .run else s.power.fgPhase } }

/-- WAKE (R216): it has a step while the wake source is armed. -/
def eventWake (s : State) : Result := whenEnabled .wake s.power.wakeArmed s s.wakeUp

end Sys2Proof.Machine
end

