-- ==== Sys2Proof/Machine/Tick.lean ====
section
/-! DEFINITION. Machine/Tick.lean: the event TICK: the debounce filters and the timers (spec/40_tick_debounce.md R100 to
R108). -/

namespace Sys2Proof.Machine

/-- The held level of a line after its mask has shifted: 1 when stably asserted, 0 when stably released, else as it was
(R103). -/
def heldLevel (w : Nat) (m : MaskBits) (old : Bool) : Bool :=
  match db w m with
  | .asserted => true
  | .released => false
  | .bouncing => old

/-- The filters' part of a tick: shift both masks, then update both levels from the masks as just shifted (R101 to
R103). -/
def DebounceRegs.sample (w : Nat) (r : DebounceRegs) (btnRaw peerRaw : Bool) : DebounceRegs :=
  let button := shiftIn w r.buttonMask btnRaw
  let peer := shiftIn w r.peerMask peerRaw
  { buttonMask := button, peerMask := peer
    buttonIn := heldLevel w button r.buttonIn, peerIn := heldLevel w peer r.peerIn }

/-- One timer's count: -1 stays inactive, TIMER_MAX stays, any other value goes up by one (R106). -/
def countTimer (timerMax t : Int) : Int := if t ≠ -1 ∧ t < timerMax then t + 1 else t

/-- The three timers count independently (R106). -/
def TimerRegs.count (timerMax : Int) (r : TimerRegs) : TimerRegs where
  wakeup := countTimer timerMax r.wakeup
  button := countTimer timerMax r.button
  idle := countTimer timerMax r.idle

/-- TICK has a step outside the deep sleep, and inside it only in a build with TICK_IN_DEEP_SLEEP (R100, R214). -/
def tickEnabled (s : State) : Bool := decide (s.power.fgPhase ≠ .deepSleep) || s.cfg.tickInDeepSleep

/-- What TICK does: filters, timers, and the end of a light sleep (R100, R217); the watchdog's period goes on (R107, R247). -/
def State.tick (s : State) (btnRaw peerRaw : Bool) : State :=
  ({ s with
      debounce := s.debounce.sample s.cfg.w btnRaw peerRaw
      timers := s.timers.count s.cfg.timerMax
      sinceKick := s.sinceKick.map (· + 1) }).wakeLight

/-- TICK(btn_raw, peer_raw) (R100). -/
def eventTick (btnRaw peerRaw : Bool) (s : State) : Result := whenEnabled .tick (tickEnabled s) s (s.tick btnRaw peerRaw)

end Sys2Proof.Machine
end

