-- ==== Sys2Proof/Machine/Events.lean ====
section
/-! DEFINITION. Machine/Events.lean: RESET, the eight events in one function, runs of events, a whole transaction, and
the foreground's own step (spec/00_scope.md R7, spec/30_encoding.md R86, spec/70_reset_and_hazards.md R260). -/

namespace Sys2Proof.Machine

/-- RESET (R260): it has a step in every state and writes every register with its reset value. The model's own fields,
which are no registers, stay (notes/assumptions/18.md). -/
def eventReset (s : State) : Result :=
  .next { State.resetWith s.cfg with schedule := s.schedule, outputs := s.outputs, history := s.history }

/-- The step of an event (R7). -/
def runEvent (e : Event) (s : State) : Result :=
  match e with
  | .tick btnRaw peerRaw => eventTick btnRaw peerRaw s
  | .spiByte cs rx => eventSpiByte cs rx s
  | .spiDeselect => eventSpiDeselect s
  | .adcDone v => eventAdcDone v s
  | .wake => eventWake s
  | .fgPass => eventFgPass s
  | .fgPdSleep => eventFgPdSleep s
  | .reset => eventReset s

/-- Events one after the other, in the order of the list (R67). -/
def runEvents : List Event → State → Result
  | [], s => .next s
  | e :: es, s => andThen (runEvent e s) (runEvents es)

/-- `XFER(a, d, p)`: three SPI_BYTE events with cs = 1 and no event between them (R86, R80). -/
def transaction (a d p : Byte) (s : State) : Result := runEvents [.spiByte true a, .spiByte true d, .spiByte true p] s

/-- The foreground's next event, when it is not asleep (R29, R180, R213). -/
def foregroundEvent (s : State) : Option Event :=
  match s.power.fgPhase with
  | .run => some .fgPass
  | .pdArmed => some .fgPdSleep
  | .lightSleep => none
  | .deepSleep => none

/-- The watchdog's period has passed since the last wdt_kick (R247), or may have: after the halt and after a deep sleep no tick
counts the time (notes/assumptions/16.md). -/
def State.kickOverdue (s : State) : Bool :=
  s.spi.halted ||
    match s.sinceKick with
    | some n => decide (Config.wdtPeriod < n)
    | none => true

/-- The watchdog fires: it is present, its period has passed, and its policy says so of the event history (R233, R247). -/
def State.watchdogFires (s : State) : Bool := s.cfg.wdtPresent && s.kickOverdue && Config.wdtPolicy s.history

/-- A step that takes the watchdog as a source of RESET (R233): RESET where it fires, which no register tells from another
RESET (R260), and no step where it does not. -/
def stepWatchdog (rest : List Input) (s : State) : Result :=
  if s.watchdogFires then runEvent .reset (s.beginStep .watchdog rest) else .refused (.noStep .watchdog)

/-- A step with nothing scheduled. DESIGN CHOICE (safe, notes/assumptions/3.md): the foreground loop goes on by itself; a
block that is asleep waits unchanged; a block that has halted has no step. -/
def stepUnscheduled (s : State) : Result :=
  if s.spi.halted then .fault .halted
  else
    match foregroundEvent s with
    | some e => runEvent e (s.beginStep (.event e) [])
    | none => .next { s with outputs := [] }

end Sys2Proof.Machine
end

