-- ==== Sys2Proof/Machine/Bus.lean ====
section
/-! DEFINITION. Machine/Bus.lean: the meaning of each bus command (spec/42_spi_responder.md R145 to R152): its three wire
bytes, given to the responder one after the other. What a command does at each byte is the responder's (R141 to R144). -/

namespace Sys2Proof.Machine

/-- SETMASK d (R145): the mask is written at wire byte 2. -/
def execSetmask (d p : Byte) (s : State) : Result := transaction 0x01 d p s

/-- GETMASK (R146). -/
def execGetmask (d p : Byte) (s : State) : Result := transaction 0x02 d p s

/-- AUXTOG (R147): the toggle is requested at wire byte 1. -/
def execAuxtog (d p : Byte) (s : State) : Result := transaction 0x03 d p s

/-- GETVER (R148). -/
def execGetver (d p : Byte) (s : State) : Result := transaction 0x04 d p s

/-- BOOTLD (R149): the bootloader is requested at wire byte 1. -/
def execBootld (d p : Byte) (s : State) : Result := transaction 0x05 d p s

/-- GETHW (R151). -/
def execGethw (d p : Byte) (s : State) : Result := transaction 0x06 d p s

/-- GETADC 0 (R150). -/
def execGetadc0 (d p : Byte) (s : State) : Result := transaction (adcAddress 0) d p s

/-- GETADC 1 (R150), reserved unless 1 < N_CH (R152). -/
def execGetadc1 (d p : Byte) (s : State) : Result := transaction (adcAddress 1) d p s

/-- GETADC 2 (R150), reserved unless 2 < N_CH (R152). -/
def execGetadc2 (d p : Byte) (s : State) : Result := transaction (adcAddress 2) d p s

/-- GETADC 3 (R150), reserved unless 3 < N_CH (R152). -/
def execGetadc3 (d p : Byte) (s : State) : Result := transaction (adcAddress 3) d p s

/-- GETADC 4 (R150), reserved unless 4 < N_CH (R152). -/
def execGetadc4 (d p : Byte) (s : State) : Result := transaction (adcAddress 4) d p s

/-- GETADC 5 (R150), reserved unless 5 < N_CH (R152). -/
def execGetadc5 (d p : Byte) (s : State) : Result := transaction (adcAddress 5) d p s

/-- GETADC 6 (R150), reserved unless 6 < N_CH (R152). -/
def execGetadc6 (d p : Byte) (s : State) : Result := transaction (adcAddress 6) d p s

/-- GETADC 7 (R150), reserved unless 7 < N_CH (R152). -/
def execGetadc7 (d p : Byte) (s : State) : Result := transaction (adcAddress 7) d p s

/-- RSVD 0x00 (R152). -/
def execRsvd00 (d p : Byte) (s : State) : Result := transaction 0x00 d p s

/-- RSVD 0x07 (R152). -/
def execRsvd07 (d p : Byte) (s : State) : Result := transaction 0x07 d p s

/-- RSVD 0x08 to 0x0F (R152). -/
def execRsvd08to0F (a d p : Byte) (s : State) : Result := transaction a d p s

/-- RSVD 0x18 to 0x1F (R152). -/
def execRsvd18to1F (a d p : Byte) (s : State) : Result := transaction a d p s

/-- RSVD 0x20 to 0x3F (R152). -/
def execRsvd20to3F (a d p : Byte) (s : State) : Result := transaction a d p s

/-- RSVD 0x40 to 0x7F (R152). -/
def execRsvd40to7F (a d p : Byte) (s : State) : Result := transaction a d p s

/-- RSVD 0x80 to 0xFF (R152). -/
def execRsvd80toFF (a d p : Byte) (s : State) : Result := transaction a d p s

end Sys2Proof.Machine
end

