-- ==== Sys2Proof/Machine/Dispatch.lean ====
section
/-! DEFINITION. Machine/Dispatch.lean: one arm per constructor of `Instr`. -/

namespace Sys2Proof.Machine

def exec (i : Instr) (s : State) : Host.Outcome State Fault Refusal :=
  match i with
  | .setmask d p => Sys2Proof.Machine.execSetmask d p s
  | .getmask d p => Sys2Proof.Machine.execGetmask d p s
  | .auxtog d p => Sys2Proof.Machine.execAuxtog d p s
  | .getver d p => Sys2Proof.Machine.execGetver d p s
  | .bootld d p => Sys2Proof.Machine.execBootld d p s
  | .gethw d p => Sys2Proof.Machine.execGethw d p s
  | .getadc0 d p => Sys2Proof.Machine.execGetadc0 d p s
  | .getadc1 d p => Sys2Proof.Machine.execGetadc1 d p s
  | .getadc2 d p => Sys2Proof.Machine.execGetadc2 d p s
  | .getadc3 d p => Sys2Proof.Machine.execGetadc3 d p s
  | .getadc4 d p => Sys2Proof.Machine.execGetadc4 d p s
  | .getadc5 d p => Sys2Proof.Machine.execGetadc5 d p s
  | .getadc6 d p => Sys2Proof.Machine.execGetadc6 d p s
  | .getadc7 d p => Sys2Proof.Machine.execGetadc7 d p s
  | .rsvd00 d p => Sys2Proof.Machine.execRsvd00 d p s
  | .rsvd07 d p => Sys2Proof.Machine.execRsvd07 d p s
  | .rsvd08to0F a d p => Sys2Proof.Machine.execRsvd08to0F a d p s
  | .rsvd18to1F a d p => Sys2Proof.Machine.execRsvd18to1F a d p s
  | .rsvd20to3F a d p => Sys2Proof.Machine.execRsvd20to3F a d p s
  | .rsvd40to7F a d p => Sys2Proof.Machine.execRsvd40to7F a d p s
  | .rsvd80toFF a d p => Sys2Proof.Machine.execRsvd80toFF a d p s

end Sys2Proof.Machine
end

