-- ==== Sys2Proof/Machine/Step.lean ====
section
/-! DEFINITION. Machine/Step.lean: one step of the machine: the next entry of the schedule, or the foreground's own next
step when nothing is scheduled (spec/00_scope.md R7, notes/assumptions/2.md and 3.md). -/

namespace Sys2Proof.Machine

/-- One step. A scheduled transaction is decoded and executed; a scheduled event runs by its rule; the
watchdog resets where it fires. -/
def step (s : State) : Host.Outcome State Fault Refusal :=
  match s.schedule with
  | .xfer m1 m2 m3 :: rest => exec (decodeXfer m1 m2 m3) (s.beginStep (.xfer m1 m2 m3) rest)
  | .event e :: rest => runEvent e (s.beginStep (.event e) rest)
  | .watchdog :: rest => stepWatchdog rest s
  | [] => stepUnscheduled s

/-- The transaction of the opcode-table word `w` placed at the head of the schedule, where `step` takes its next input. The
bits of `w` at and above `nbits` count as zero, up to the 24 bits of a transaction (R81). -/
def State.withFetchWord (s : State) (nbits w : Nat) : State :=
  match wireBytes (w % 2 ^ nbits) with
  | [m1, m2, m3] => { s with schedule := .xfer m1 m2 m3 :: s.schedule }
  | _ => s

end Sys2Proof.Machine
end

