-- ==== Sys2Proof/Safety.lean ====
section
/-! DEFINITION. Safety.lean: the terms the statements use. First what holds of every state a run reaches: the invariant of
the model that every step keeps, and the properties of spec/10_state.md R49. Then the spec's tables and words as data of their
own, independent of the decoder and of the dispatch: the opcode table, the transition table of spec/43_power_fsm.md R201, the
states a transaction passes through, and what a trace shows. -/

namespace Sys2Proof.Machine

/-- The value is -1 or in 0 .. TIMER_MAX (R24, R49 item 3). -/
abbrev TimerLegal (p : Config.Params) (t : Int) : Prop := -1 ≤ t ∧ t ≤ p.timerMax

/-- The register holds a value of its low W bits (R21, R22). -/
abbrev MaskFits (p : Config.Params) (m : MaskBits) : Prop := m.toNat < 2 ^ p.w

/-- The states a press returns to (R16, R187). -/
def PowerState.context : PowerState → Bool
  | .wait => true
  | .signaledOn => true
  | .mcuRunning => true
  | _ => false

/-- A press is being classified (R186, R187). -/
def PowerState.pressing : PowerState → Bool
  | .buttonPress => true
  | .buttonRelease => true
  | _ => false

/-- The register value names no state (R90, R215). -/
def PowerState.unnamed : PowerState → Bool
  | .undefined _ => true
  | _ => false

/-- The level R204 gives `power_enable` in a power state, none where it may be either. In a press it is the level of the
context. -/
def expectedSupply (current previous : PowerState) : Option Bool :=
  match current with
  | .start => some false
  | .waitEntry => some false
  | .wait => some false
  | .mcuOff => some false
  | .powerDownEntry => some false
  | .powerDownExit => some false
  | .signaledOn => some true
  | .mcuRunningEntry => some true
  | .mcuRunning => some true
  | .idleEntry => some true
  | .adcNoiseEntry => some true
  | .adcNoiseExit => some true
  | .signaledOffEntry => some true
  | .signaledOff => some true
  | .buttonPress => some (decide (previous ≠ .wait))
  | .buttonRelease => some (decide (previous ≠ .wait))
  | .signaledOnEntry => none
  | .mcuOffEntry => none
  | .undefined _ => none

/-- The family of states in which `wakeup_timer` may be armed: `Wait`, the states that enter and leave it, and a press begun
in it (R24, C13). -/
def wakeupFamily (current previous : PowerState) : Bool :=
  match current with
  | .waitEntry => true
  | .wait => true
  | .signaledOnEntry => true
  | .mcuOffEntry => true
  | .buttonPress => decide (previous = .wait)
  | .buttonRelease => decide (previous = .wait)
  | _ => false

/-- Whether the wake source is armed, by where the foreground stands: from the arming pass to the dispatch of
`PowerDownExit` (R30, R49 item 5, D18). -/
def expectedArmed (phase : FgPhase) (current : PowerState) : Bool :=
  match phase with
  | .run => decide (current = .powerDownExit)
  | .pdArmed => true
  | .lightSleep => false
  | .deepSleep => true

/-- Debounce registers hold W bits (R21, R22). -/
abbrev FiltersWf (s : State) : Prop := MaskFits s.cfg s.debounce.buttonMask ∧ MaskFits s.cfg s.debounce.peerMask

/-- Every timer is legal, and armed only in its own family of states (R24, C13). -/
abbrev TimersWf (s : State) : Prop :=
  (TimerLegal s.cfg s.timers.wakeup ∧ TimerLegal s.cfg s.timers.button ∧ TimerLegal s.cfg s.timers.idle) ∧
  (s.timers.wakeup ≠ -1 → wakeupFamily s.power.current s.power.previous = true) ∧
  (s.timers.button ≠ -1 → s.power.current = .buttonRelease) ∧
  (s.timers.idle ≠ -1 → s.power.current = .mcuRunning)

/-- `current` names a state; `previous` is `Start` or a steady state; a press has one of the three contexts (R25, R26, R187). -/
abbrev ControlWf (s : State) : Prop :=
  s.power.current.unnamed = false ∧
  (s.power.previous = .start ∨ s.power.previous.steady = true) ∧
  (s.power.current.pressing = true → s.power.previous.context = true)

/-- The supply has the level of the power state, and a shutdown is requested only in `SignaledOff` (R204). -/
abbrev OutputsWf (s : State) : Prop :=
  (∀ b, expectedSupply s.power.current s.power.previous = some b → s.power.powerEnable = b) ∧
  (s.power.shutdownRequest = true → s.power.current = .signaledOff)

/-- Where the foreground stands, the wake source and the two enables agree (R29, R30, R35, R42, R49 items 4 to 7); a block in
deep sleep has no wake pending (R213, R216). -/
abbrev SleepWf (s : State) : Prop :=
  s.power.wakeArmed = expectedArmed s.power.fgPhase s.power.current ∧
  s.adc.enabled = !s.power.wakeArmed ∧ s.spi.enabled = !s.power.wakeArmed ∧
  (s.power.fgPhase = .pdArmed → s.power.current = .powerDownEntry) ∧
  (s.power.fgPhase = .deepSleep → s.power.current = .powerDownExit ∧ s.power.wakePending = false) ∧
  (s.power.fgPhase = .lightSleep → s.power.current = .adcNoiseExit) ∧
  (s.power.wakePending = true → s.power.wakeArmed = true)

/-- The channel in flight exists, a completion has a channel, and the slots that do not exist stay as reset left them (R32 to
R34, R49 items 1 and 2). -/
abbrev SequencerWf (s : State) : Prop :=
  (∀ k, s.adc.currentChannel = some k → k.val < s.cfg.nCh) ∧
  (s.adc.complete = true → s.adc.currentChannel ≠ none) ∧
  (∀ k : Chan, s.cfg.nCh ≤ k.val → s.adc.value[k] = 0)

/-- The progress counter is 0, 1 or 2, and a halted block was asked to halt (R36, R41, R49 items 9 and 10). -/
abbrev ResponderWf (s : State) : Prop := s.spi.phase ≠ .reserved3 ∧ (s.spi.halted = true → s.spi.bootReq = true)

/-- The invariant of the model. -/
structure State.Inv (s : State) : Prop where
  cfg : s.cfg.Legal
  filters : FiltersWf s
  timers : TimersWf s
  control : ControlWf s
  outputs : OutputsWf s
  sleep : SleepWf s
  sequencer : SequencerWf s
  responder : ResponderWf s

/-- The ten properties R49 lists of every state reachable from reset. Item 1's second half speaks of an earlier FG_PASS and is
not a property of one state. -/
structure State.ReachableProperties (s : State) : Prop where
  channelExists : ∀ k, s.adc.currentChannel = some k → k.val < s.cfg.nCh
  completeHasChannel : s.adc.complete = true → s.adc.currentChannel ≠ none
  timersLegal : TimerLegal s.cfg s.timers.wakeup ∧ TimerLegal s.cfg s.timers.button ∧ TimerLegal s.cfg s.timers.idle
  armedIffDisabled : (s.power.wakeArmed = true ↔ s.adc.enabled = false) ∧ (s.adc.enabled = false ↔ s.spi.enabled = false)
  sleepArmed :
    (s.power.fgPhase = .pdArmed ∨ s.power.fgPhase = .deepSleep → s.power.wakeArmed = true) ∧
    (s.power.wakeArmed = true → s.power.current = .powerDownEntry ∨ s.power.current = .powerDownExit)
  lightSleepState : s.power.fgPhase = .lightSleep → s.power.current = .adcNoiseExit
  pendingArmed : s.power.wakePending = true → s.power.wakeArmed = true
  shutdownSupplied : s.power.shutdownRequest = true → s.power.powerEnable = true
  phaseNamed : s.spi.phase ≠ .reserved3
  haltedAsked : s.spi.halted = true → s.spi.bootReq = true

/-! ## A transaction, byte by byte -/

/-- The serial hardware takes bytes: the precondition of SPI_BYTE (R140). -/
abbrev State.BusReady (s : State) : Prop := s.spi.halted = false ∧ s.spi.enabled = true

/-- The next byte is taken as an address: `phase` is `ExpectAddress` or the value 3 that reads as it (R91). -/
abbrev State.Framed (s : State) : Prop := s.spi.phase = .expectAddress ∨ s.spi.phase = .reserved3

/-- The power registers after an event that ends a light sleep (R217). -/
def PowerRegs.awake (r : PowerRegs) : PowerRegs :=
  match r.fgPhase with
  | .lightSleep => { r with fgPhase := .run }
  | _ => r

/-- The state after wire byte 1 = `a` was answered with `s2`, `s3` and had the effect `effect` on the flags (R141). The byte
driven meanwhile is the old `tx` (R140), which is outside the bus contract (U3, notes/assumptions/9.md). -/
def State.afterByte1 (s : State) (a s2 s3 : Byte) (effect : SpiRegs → SpiRegs) : State :=
  { s with
    power := s.power.awake
    spi := effect { s.spi with phase := .expectByte2, addr := a, pending := s3, tx := s2, xferFlag := true }
    outputs := s.outputs ++ [.miso (.driven s.spi.tx)] }

/-- The state after wire byte 2, which had the effect `effect` on the mask (R142). -/
def State.afterByte2 (s : State) (effect : AdcRegs → AdcRegs) : State :=
  { s with
    power := s.power.awake
    adc := effect s.adc
    spi := { s.spi with phase := .expectByte3, tx := s.spi.pending, xferFlag := true }
    outputs := s.outputs ++ [.miso (.driven s.spi.tx)] }

/-- The state after wire byte 3 (R143). -/
def State.afterByte3 (s : State) : State :=
  { s with
    power := s.power.awake
    spi := { s.spi with phase := .expectAddress, tx := 0, xferFlag := true }
    outputs := s.outputs ++ [.miso (.driven s.spi.tx)] }

/-- From the framed state `s`, the command `i` is answered with `s2`, `s3`: each of its wire bytes has a step, the three
steps lead through the states named, wire byte 1 having `effect1` on the flags and wire byte 2 `effect2` on the mask, and
`exec` answers the last of them. -/
def Answers (i : Instr) (s : State) (s2 s3 : Byte) (effect1 : SpiRegs → SpiRegs) (effect2 : AdcRegs → AdcRegs) : Prop :=
  runEvent (.spiByte true i.address) s = .next (s.afterByte1 i.address s2 s3 effect1) ∧
  runEvent (.spiByte true i.data.1) (s.afterByte1 i.address s2 s3 effect1) =
    .next ((s.afterByte1 i.address s2 s3 effect1).afterByte2 effect2) ∧
  runEvent (.spiByte true i.data.2) ((s.afterByte1 i.address s2 s3 effect1).afterByte2 effect2) =
    .next ((s.afterByte1 i.address s2 s3 effect1).afterByte2 effect2).afterByte3 ∧
  exec i s = .next ((s.afterByte1 i.address s2 s3 effect1).afterByte2 effect2).afterByte3

/-- GETADC k as an instruction (R150). -/
def getadcInstr (k : Chan) (d p : Byte) : Instr :=
  match k.val with
  | 0 => .getadc0 d p
  | 1 => .getadc1 d p
  | 2 => .getadc2 d p
  | 3 => .getadc3 d p
  | 4 => .getadc4 d p
  | 5 => .getadc5 d p
  | 6 => .getadc6 d p
  | _ => .getadc7 d p

/-- The rows of the table that are reserved in every build (R84). -/
def reservedRow : Instr → Bool
  | .rsvd00 _ _ => true
  | .rsvd07 _ _ => true
  | .rsvd08to0F _ _ _ => true
  | .rsvd18to1F _ _ _ => true
  | .rsvd20to3F _ _ _ => true
  | .rsvd40to7F _ _ _ => true
  | .rsvd80toFF _ _ _ => true
  | _ => false

/-- The byte of a command that is taken as an address when its bytes are counted from the state's phase (R63, R267). -/
def addressTaken (s : State) (i : Instr) : Byte :=
  match s.spi.phase with
  | .expectAddress => i.address
  | .reserved3 => i.address
  | .expectByte2 => i.data.2
  | .expectByte3 => i.data.1

/-- The byte that is written to the mask when a command's bytes are counted from the state's phase (R63, R65, R267). -/
def maskWritten (s : State) (i : Instr) : Option Byte :=
  match s.spi.phase with
  | .expectAddress => if i.address = 0x01 then some i.data.1 else none
  | .reserved3 => if i.address = 0x01 then some i.data.1 else none
  | .expectByte2 => if s.spi.addr = 0x01 then some i.address else none
  | .expectByte3 => if i.data.1 = 0x01 then some i.data.2 else none

/-- What the block drives during the second and the third byte of a command, counted from the state's phase (R141 to R143). -/
def answered (s : State) (i : Instr) : Byte × Byte :=
  match s.spi.phase with
  | .expectAddress => memRead s i.address
  | .reserved3 => memRead s i.address
  | .expectByte2 => (s.spi.pending, 0)
  | .expectByte3 => (0, (memRead s i.data.1).1)

/-- The byte a command leaves to be driven next, counted from the state's phase; `t` is the state after it (R141 to R143). -/
def leftToDrive (s t : State) (i : Instr) : Byte :=
  match s.spi.phase with
  | .expectAddress => 0
  | .reserved3 => 0
  | .expectByte2 => (memRead t i.data.2).1
  | .expectByte3 => (memRead s i.data.1).2

/-- The count of bytes after three more of them: as it was, the value 3 counting as 0 (R63, R91). -/
def phaseAfterThree : Phase → Phase
  | .expectAddress => .expectAddress
  | .reserved3 => .expectAddress
  | .expectByte2 => .expectByte2
  | .expectByte3 => .expectByte3

/-- The events that may fall between the bytes of a transaction without disturbing it: all but an addressed byte, a
deselect, FG_PD_SLEEP and RESET (R156). -/
def quiet : Event → Bool
  | .tick _ _ => true
  | .spiByte cs _ => !cs
  | .spiDeselect => false
  | .adcDone _ => true
  | .wake => true
  | .fgPass => true
  | .fgPdSleep => false
  | .reset => false

/-! ## What a trace shows -/

/-- The bytes the block drove, in order. -/
def drivenBytes (os : List Output) : List Byte :=
  os.filterMap fun o =>
    match o with
    | .miso (.driven b) => some b
    | _ => none

/-- The number of TICK events of a run, the time it takes (R107). -/
def ticksIn (es : List Event) : Nat := es.countP fun e => decide (e.kind? = some .tick)

/-- The channels on which conversions were started, in order (R129). -/
def conversionStarts (os : List Output) : List Chan :=
  os.filterMap fun o =>
    match o with
    | .adcStart k => some k
    | _ => none

/-- The pulse of starting a conversion on the channel found, if one was found (R129). -/
def startPulse (found : Option Chan) : List Output :=
  match found with
  | some k => [.adcStart k]
  | none => []

/-- The dispatches that suspend the foreground inside the pass (R180, R193, R199). -/
def suspends : PowerState → Bool
  | .powerDownEntry => true
  | .adcNoiseEntry => true
  | _ => false

/-- The foreground can take a full pass (R180). -/
abbrev State.PassReady (s : State) : Prop := s.spi.halted = false ∧ s.power.fgPhase = .run

/-! ## The opcode table -/

/-- A row of spec/opcode_table.json. -/
structure OpcodeRow where
  mnemonic : String
  value    : BitVec 24
  mask     : BitVec 24
  deriving DecidableEq, Repr

/-- The rows of spec/opcode_table.json that name one address (match and mask as the table has them). -/
def opcodeRowsOfOneAddress : List OpcodeRow :=
  [⟨"SETMASK", 0x010000, 0xFF0000⟩, ⟨"GETMASK", 0x020000, 0xFF0000⟩, ⟨"AUXTOG", 0x030000, 0xFF0000⟩,
    ⟨"GETVER", 0x040000, 0xFF0000⟩, ⟨"BOOTLD", 0x050000, 0xFF0000⟩, ⟨"GETHW", 0x060000, 0xFF0000⟩,
    ⟨"GETADC_0", 0x100000, 0xFF0000⟩, ⟨"GETADC_1", 0x110000, 0xFF0000⟩, ⟨"GETADC_2", 0x120000, 0xFF0000⟩,
    ⟨"GETADC_3", 0x130000, 0xFF0000⟩, ⟨"GETADC_4", 0x140000, 0xFF0000⟩, ⟨"GETADC_5", 0x150000, 0xFF0000⟩,
    ⟨"GETADC_6", 0x160000, 0xFF0000⟩, ⟨"GETADC_7", 0x170000, 0xFF0000⟩, ⟨"RSVD_00", 0x000000, 0xFF0000⟩,
    ⟨"RSVD_07", 0x070000, 0xFF0000⟩]

/-- The rows of spec/opcode_table.json that name a range of addresses. -/
def opcodeRowsOfRanges : List OpcodeRow :=
  [⟨"RSVD_08_0F", 0x080000, 0xF80000⟩, ⟨"RSVD_18_1F", 0x180000, 0xF80000⟩, ⟨"RSVD_20_3F", 0x200000, 0xE00000⟩,
    ⟨"RSVD_40_7F", 0x400000, 0xC00000⟩, ⟨"RSVD_80_FF", 0x800000, 0x800000⟩]

/-- spec/opcode_table.json. -/
def opcodeTable : List OpcodeRow := opcodeRowsOfOneAddress ++ opcodeRowsOfRanges

/-- The mnemonic of an instruction's row. -/
def rowOf : Instr → String
  | .setmask _ _ => "SETMASK"
  | .getmask _ _ => "GETMASK"
  | .auxtog _ _ => "AUXTOG"
  | .getver _ _ => "GETVER"
  | .bootld _ _ => "BOOTLD"
  | .gethw _ _ => "GETHW"
  | .getadc0 _ _ => "GETADC_0"
  | .getadc1 _ _ => "GETADC_1"
  | .getadc2 _ _ => "GETADC_2"
  | .getadc3 _ _ => "GETADC_3"
  | .getadc4 _ _ => "GETADC_4"
  | .getadc5 _ _ => "GETADC_5"
  | .getadc6 _ _ => "GETADC_6"
  | .getadc7 _ _ => "GETADC_7"
  | .rsvd00 _ _ => "RSVD_00"
  | .rsvd07 _ _ => "RSVD_07"
  | .rsvd08to0F _ _ _ => "RSVD_08_0F"
  | .rsvd18to1F _ _ _ => "RSVD_18_1F"
  | .rsvd20to3F _ _ _ => "RSVD_20_3F"
  | .rsvd40to7F _ _ _ => "RSVD_40_7F"
  | .rsvd80toFF _ _ _ => "RSVD_80_FF"

/-! ## The transition table -/

/-- A row of the transition table R201: the condition, the state it leads to, and the outputs and timers it writes (none
where it does not write). -/
structure TransitionRow where
  source          : PowerState
  condition       : State → Bool
  target          : PowerState
  powerEnable     : Option Bool := none
  shutdownRequest : Option Bool := none
  wakeup          : Option Int := none
  button          : Option Int := none
  idle            : Option Int := none

/-- The condition `always` of R201. -/
def always (_ : State) : Bool := true

/-- The condition of a released press in R201: the context, and whether the press was long (L) or not. -/
def releasedPress (context : PowerState) (long : Bool) (s : State) : Bool :=
  decide (s.btn = .released) && decide (s.power.previous = context) &&
    decide (long = decide ((s.cfg.buttonHoldTicks : Int) ≤ s.timers.button))

/-- The rows of R201 that lead through `Wait` and a press. -/
def waitRows : List TransitionRow :=
  [{ source := .start, condition := always, target := .waitEntry, wakeup := some (-1), button := some (-1), idle := some (-1) },
    { source := .waitEntry, condition := always, target := .wait, powerEnable := some false,
      shutdownRequest := some false, wakeup := some 0 },
    { source := .wait, condition := fun s => decide (s.btn = .asserted), target := .buttonPress },
    { source := .wait, condition := fun s => decide ((s.cfg.wakeupTicks : Int) ≤ s.timers.wakeup), target := .mcuOffEntry },
    { source := .buttonPress, condition := always, target := .buttonRelease, button := some 0 },
    { source := .buttonRelease, condition := releasedPress .wait true, target := .signaledOnEntry, button := some (-1) },
    { source := .buttonRelease, condition := releasedPress .wait false, target := .waitEntry, button := some (-1) },
    { source := .buttonRelease, condition := releasedPress .signaledOn true, target := .mcuOffEntry, button := some (-1) },
    { source := .buttonRelease, condition := releasedPress .signaledOn false, target := .signaledOnEntry, button := some (-1) },
    { source := .buttonRelease, condition := releasedPress .mcuRunning true, target := .signaledOffEntry, button := some (-1) },
    { source := .buttonRelease, condition := releasedPress .mcuRunning false, target := .mcuRunningEntry, button := some (-1) },
    { source := .buttonRelease, condition := fun s => decide (s.btn = .released), target := .start, button := some (-1) }]

/-- The rows of R201 with the supply on. -/
def onRows : List TransitionRow :=
  [{ source := .signaledOnEntry, condition := always, target := .signaledOn, powerEnable := some true, wakeup := some (-1) },
    { source := .signaledOn, condition := fun s => decide (s.peer = .asserted), target := .mcuRunningEntry },
    { source := .signaledOn, condition := fun s => decide (s.btn = .asserted), target := .buttonPress },
    { source := .mcuRunningEntry, condition := fun s => s.cfg.idleEnable, target := .mcuRunning, idle := some 0 },
    { source := .mcuRunningEntry, condition := always, target := .mcuRunning },
    { source := .mcuRunning, condition := fun s => decide (s.btn = .asserted), target := .buttonPress, idle := some (-1) },
    { source := .mcuRunning, condition := fun s => decide (s.peer = .released), target := .mcuOffEntry, idle := some (-1) },
    { source := .mcuRunning,
      condition := fun s => s.cfg.idleEnable && decide ((s.cfg.idleTicks : Int) ≤ s.timers.idle),
      target := .idleEntry, idle := some (-1) },
    { source := .idleEntry, condition := always, target := .adcNoiseEntry },
    { source := .adcNoiseEntry, condition := always, target := .adcNoiseExit },
    { source := .adcNoiseExit, condition := always, target := .mcuRunningEntry }]

/-- The rows of R201 that lead to the power-down and back. `PowerDownEntry` is left by FG_PD_SLEEP, not by a pass, and has no
row here. -/
def offRows : List TransitionRow :=
  [{ source := .signaledOffEntry, condition := always, target := .signaledOff, shutdownRequest := some true },
    { source := .signaledOff, condition := fun s => decide (s.peer = .released), target := .mcuOffEntry,
      shutdownRequest := some false },
    { source := .mcuOffEntry, condition := always, target := .mcuOff, powerEnable := some false, wakeup := some (-1),
      button := some (-1), idle := some (-1) },
    { source := .mcuOff, condition := always, target := .powerDownEntry },
    { source := .powerDownExit, condition := always, target := .waitEntry, wakeup := some 0 }] ++
  (List.finRange 14).map fun n => { source := .undefined n, condition := always, target := .start }

/-- The transition table R201, in its own order: where two rows of one state hold, the first is taken. -/
def transitionTable : List TransitionRow := waitRows ++ onRows ++ offRows

/-- The row of the table that a pass takes. -/
def rowTaken (s : State) : Option TransitionRow :=
  transitionTable.find? fun r => decide (r.source = s.power.current) && r.condition s

/-- The registers of the table after a row was taken in state `s`: `previous` records a steady state that was left (R182). -/
def TransitionRow.TakenFrom (r : TransitionRow) (s t : State) : Prop :=
  t.power.current = r.target ∧
  t.power.previous = (if r.source.steady then r.source else s.power.previous) ∧
  t.power.powerEnable = r.powerEnable.getD s.power.powerEnable ∧
  t.power.shutdownRequest = r.shutdownRequest.getD s.power.shutdownRequest ∧
  t.timers.wakeup = r.wakeup.getD s.timers.wakeup ∧
  t.timers.button = r.button.getD s.timers.button ∧
  t.timers.idle = r.idle.getD s.timers.idle

end Sys2Proof.Machine
end

