-- ==== Sys2Proof/Certificates/Slice0/Obligations.lean ====
section
/-! DEFINITION. Certificates/Slice0/Obligations.lean: the statements about the model, in the order of OBLIGATIONS.json. -/

open Sys2Proof Sys2Proof.Machine

/-! ## Reset -/

/-- R260, R50: RESET has a step in every state and writes every register with its reset value. The parameters of the build,
the schedule, the outputs and the history are no registers and stay (notes/assumptions/18.md). The values but `Start` are the spec's
decision D28 (notes/assumptions/7.md). The watchdog's period begins anew (notes/assumptions/16.md). -/
def Obligations.ResetWritesEveryRegister : Prop :=
  ∀ s : State, ∃ t, runEvent .reset s = .next t ∧
    t.debounce = { buttonMask := BitVec.ofNat 16 (2 ^ s.cfg.w - 1), peerMask := BitVec.ofNat 16 (2 ^ s.cfg.w - 1),
                   buttonIn := false, peerIn := false } ∧
    t.timers = { wakeup := -1, button := -1, idle := -1 } ∧
    t.power = { current := .start, previous := .start, powerEnable := false, shutdownRequest := false, fgPhase := .run,
                wakeArmed := false, wakePending := false } ∧
    t.adc.channelMask = 0 ∧ (∀ k : Chan, t.adc.value[k] = 0) ∧ t.adc.channelValue = -1 ∧ t.adc.complete = false ∧
    t.adc.enabled = true ∧
    t.spi = { phase := .expectAddress, addr := 0, pending := 0, tx := 0, xferFlag := false, auxToggleReq := false,
              bootReq := false, halted := false, enabled := true, auxDir := false } ∧
    t.cfg = s.cfg ∧ t.schedule = s.schedule ∧ t.outputs = s.outputs ∧ t.history = s.history ∧
    t.sinceKick = some 0

/-- The state after reset meets the invariant of the model in every legal build, and the reset state of the interface is that
of one legal build, whose OPEN parameters are free values (notes/assumptions/1.md). -/
def Obligations.ResetMeetsInvariant : Prop :=
  (∀ p : Config.Params, p.Legal → (State.resetWith p).Inv) ∧
  State.reset = State.resetWith Config.build ∧ Config.build.Legal ∧ Config.Params.reference.Legal

/-! ## Encoding -/

/-- Decoding the wire bytes of a well-formed instruction gives it back with every operand, whatever bytes follow. -/
def Obligations.DecodeOfEncodeIsTheInstruction : Prop :=
  ∀ (i : Instr) (rest : List Byte), i.wellFormed = true → decode (encode i ++ rest) = .ok (i, rest)

/-- Every three bytes are one well-formed command and its encoding is those bytes; fewer bytes are refused with their count. -/
def Obligations.EncodeOfDecodeIsTheBytes : Prop :=
  (∀ a d p : Byte, (decodeXfer a d p).wellFormed = true ∧ encode (decodeXfer a d p) = [a, d, p]) ∧
  (∀ bs : List Byte, bs.length < 3 → decode bs = .error (.cutOff bs.length))

/-- Exactly one row of the opcode table matches a 24-bit word, and it is the row of the decoded instruction. -/
def Obligations.EveryWordMatchesExactlyItsRow : Prop :=
  ∀ a d p : Byte,
    (opcodeTable.filter fun r => decide ((a ++ d ++ p : BitVec 24) &&& r.mask = r.value)).map (·.mnemonic) = [rowOf (decodeXfer a d p)]

/-- Words written out from the table's encodings, one for each shape of row, decode to the commands they stand for. -/
def Obligations.WrittenWordsDecodeToTheirCommands : Prop :=
  decodeTableWord 24 0b000000010000001100000000 = some (.setmask 3 0) ∧
  decodeTableWord 24 0b000000101010101001010101 = some (.getmask 0xAA 0x55) ∧
  decodeTableWord 24 0b000000111001100101110111 = some (.auxtog 0x99 0x77) ∧
  decodeTableWord 24 0b000001010000000000000000 = some (.bootld 0 0) ∧
  decodeTableWord 24 0b000100010000000000000000 = some (.getadc1 0 0) ∧
  decodeTableWord 24 0b000111110000000100000010 = some (.rsvd18to1F 0x1F 1 2) ∧
  decodeTableWord 24 0b001000010000001100000100 = some (.rsvd20to3F 0x21 3 4) ∧
  decodeTableWord 24 0b010000100000010100000110 = some (.rsvd40to7F 0x42 5 6) ∧
  decodeTableWord 24 0b100000000000000000000000 = some (.rsvd80toFF 0x80 0 0)

/-- R90, R91, R92: the number codes of the enumerated registers, one for each value (the spec's decisions D11 and D3). -/
def Obligations.EnumeratedRegistersHaveTheirCodes : Prop :=
  (∀ S : PowerState, PowerState.ofCode S.code = S) ∧ (∀ c : BitVec 5, (PowerState.ofCode c).code = c) ∧
  namedPowerStates.map PowerState.code = [0, 1, 2, 3, 4, 5, 6, 7, 8, 9, 10, 11, 12, 13, 14, 15, 16, 17] ∧
  (∀ c : BitVec 5, (PowerState.ofCode c).unnamed = true ↔ 18 ≤ c) ∧
  Phase.code .expectAddress = 0 ∧ Phase.code .expectByte2 = 1 ∧ Phase.code .expectByte3 = 2 ∧ Phase.code .reserved3 = 3 ∧
  FgPhase.code .run = 0 ∧ FgPhase.code .pdArmed = 1 ∧ FgPhase.code .lightSleep = 2 ∧ FgPhase.code .deepSleep = 3

/-! ## The step -/

/-- A scheduled transaction is decoded and executed, with the rest of the schedule left, the outputs begun anew and the input
recorded. -/
def Obligations.StepRunsTheDecodedTransaction : Prop :=
  ∀ (s : State) (a d p : Byte) (rest tail : List Byte) (i : Instr) (inputs : List Input),
    s.schedule = .xfer a d p :: inputs → decode ([a, d, p] ++ rest) = .ok (i, tail) →
      step s = exec i { s with schedule := inputs, outputs := [], history := .xfer a d p :: s.history }

/-- A scheduled event runs by its rule, with the rest of the schedule left, the outputs begun anew and the input recorded. -/
def Obligations.StepRunsTheScheduledEvent : Prop :=
  ∀ (s : State) (e : Event) (inputs : List Input),
    s.schedule = .event e :: inputs →
      step s = runEvent e { s with schedule := inputs, outputs := [], history := .event e :: s.history }

/-- With nothing scheduled the foreground's next event runs, and a block that is asleep waits unchanged. This is the model's
choice (notes/assumptions/3.md), not a rule of the spec. -/
def Obligations.StepWithNothingScheduledIsTheForeground : Prop :=
  ∀ s : State, s.schedule = [] → s.spi.halted = false →
    (s.power.fgPhase = .run → step s = runEvent .fgPass { s with outputs := [], history := .event .fgPass :: s.history }) ∧
    (s.power.fgPhase = .pdArmed → step s = runEvent .fgPdSleep { s with outputs := [], history := .event .fgPdSleep :: s.history }) ∧
    (s.power.fgPhase = .lightSleep ∨ s.power.fgPhase = .deepSleep → step s = .next { s with outputs := [] })

/-- A word of the opcode table placed where the step takes its next input is what the next step runs. -/
def Obligations.FetchedTableWordIsRun : Prop :=
  ∀ (s : State) (w : Nat) (i : Instr), decodeTableWord 24 w = some i →
    ∃ a d p : Byte, encode i = [a, d, p] ∧
      step (s.withFetchWord 24 w) = exec i { s with outputs := [], history := .xfer a d p :: s.history }

/-- Every step keeps the invariant of the model. -/
def Obligations.EveryStepKeepsTheInvariant : Prop :=
  ∀ s t : State, s.Inv → step s = .next t → t.Inv

/-- R49: the invariant gives the ten properties the spec lists of every reachable state; the second half of item 1, which speaks
of the pass that selected the channel, is the clause on an event: every channel it starts, and every channel that comes to be
in flight, is selected by an FG_PASS in whose mask it is requested. -/
def Obligations.InvariantGivesTheReachableProperties : Prop :=
  ∀ s : State, s.Inv → s.ReachableProperties ∧
    ∀ (e : Event) (t : State), runEvent e s = .next t →
      ∃ selected : List Chan, conversionStarts t.outputs = conversionStarts s.outputs ++ selected ∧
        (∀ k ∈ selected, e = .fgPass ∧ k.val < s.cfg.nCh ∧ s.adc.channelMask.getLsbD k.val = true) ∧
        (∀ k : Chan, t.adc.currentChannel = some k →
          selected = [k] ∨ (selected = [] ∧ s.adc.currentChannel = some k))

/-- No step changes the parameters of the build, and a step takes at most the head of the schedule and records at most one
input. -/
def Obligations.StepKeepsTheBuildAndTheScheduleTail : Prop :=
  ∀ s t : State, step s = .next t →
    t.cfg = s.cfg ∧ t.schedule = s.schedule.tail ∧ (t.history = s.history ∨ ∃ x, t.history = x :: s.history)

/-! ## Transactions -/

/-- A command is its three wire bytes, given to the responder one after the other with nothing between. -/
def Obligations.CommandIsItsThreeWireBytes : Prop :=
  ∀ (i : Instr) (s : State), exec i s = runEvents ((encode i).map (Event.spiByte true)) s

/-- R145, R142: SETMASK answers 0, 0 and writes all 8 bits of the mask (decision D19) at wire byte 2, not before.
The byte driven in wire byte 1 is the old `tx` (notes/assumptions/9.md), `tx` is 0 at the end (decision D22), and `phase` 3
is read as `ExpectAddress` (decision D11). -/
def Obligations.SetmaskWritesTheMaskAtWireByte2 : Prop :=
  ∀ (s : State) (d p : Byte), s.BusReady → s.Framed →
    Answers (.setmask d p) s 0 0 id (fun r => { r with channelMask := d })

/-- R146: GETMASK answers the mask as it is at wire byte 1, then 0, and changes no register but the transaction's own.
The byte driven in wire byte 1 is the old `tx` (notes/assumptions/9.md), `tx` is 0 at the end (decision D22), and `phase` 3
is read as `ExpectAddress` (decision D11). -/
def Obligations.GetmaskAnswersTheMask : Prop :=
  ∀ (s : State) (d p : Byte), s.BusReady → s.Framed → Answers (.getmask d p) s s.adc.channelMask 0 id id

/-- R147: AUXTOG answers 0, 0 and requests the toggle at wire byte 1 (decision D24).
The byte driven in wire byte 1 is the old `tx` (notes/assumptions/9.md), `tx` is 0 at the end (decision D22), and `phase` 3
is read as `ExpectAddress` (decision D11). -/
def Obligations.AuxtogRequestsTheToggleAtWireByte1 : Prop :=
  ∀ (s : State) (d p : Byte), s.BusReady → s.Framed →
    Answers (.auxtog d p) s 0 0 (fun r => { r with auxToggleReq := true }) id

/-- R148: GETVER answers the version pair whatever the registers hold.
The byte driven in wire byte 1 is the old `tx` (notes/assumptions/9.md), `tx` is 0 at the end (decision D22), and `phase` 3
is read as `ExpectAddress` (decision D11). -/
def Obligations.GetverAnswersTheVersionPair : Prop :=
  ∀ (s : State) (d p : Byte), s.BusReady → s.Framed →
    Answers (.getver d p) s s.cfg.majorVersion s.cfg.minorVersion id id

/-- R149: BOOTLD answers 0, 0 and requests the bootloader at wire byte 1; no byte of it halts the block
(decisions D24 and D25).
The byte driven in wire byte 1 is the old `tx` (notes/assumptions/9.md), `tx` is 0 at the end (decision D22), and `phase` 3
is read as `ExpectAddress` (decision D11). -/
def Obligations.BootldRequestsTheBootloaderAtWireByte1 : Prop :=
  ∀ (s : State) (d p : Byte), s.BusReady → s.Framed →
    Answers (.bootld d p) s 0 0 (fun r => { r with bootReq := true }) id

/-- R151: GETHW answers the variant flag, then 0 (decision D24).
The byte driven in wire byte 1 is the old `tx` (notes/assumptions/9.md), `tx` is 0 at the end (decision D22), and `phase` 3
is read as `ExpectAddress` (decision D11). -/
def Obligations.GethwAnswersTheVariantFlag : Prop :=
  ∀ (s : State) (d p : Byte), s.BusReady → s.Framed → Answers (.gethw d p) s s.cfg.hwVariant 0 id id

/-- R150: GETADC k, k < N_CH, answers the low byte of slot k, then the high byte, both of the value at wire byte 1.
The byte driven in wire byte 1 is the old `tx` (notes/assumptions/9.md), `tx` is 0 at the end (decision D22), and `phase` 3
is read as `ExpectAddress` (decision D11). -/
def Obligations.GetadcAnswersTheSlotLowByteFirst : Prop :=
  ∀ (s : State) (k : Chan) (d p : Byte), s.BusReady → s.Framed → k.val < s.cfg.nCh →
    Answers (getadcInstr k d p) s (BitVec.ofNat 8 (s.adc.value[k].toNat % 256)) (BitVec.ofNat 8 (s.adc.value[k].toNat / 256)) id id

/-- R152: every reserved address, that of a channel the build does not have among them, answers 0, 0 and changes no register
but the transaction's own. That an absent channel's address is reserved is decision D19 (notes/assumptions/4.md). The byte driven
in wire byte 1 is the old `tx` (notes/assumptions/9.md), `tx` is 0 at the end (decision D22), and `phase` 3 is read as
`ExpectAddress` (decision D11). -/
def Obligations.ReservedAddressAnswersZeros : Prop :=
  ∀ (s : State) (i : Instr), s.BusReady → s.Framed → i.wellFormed = true →
    (reservedRow i = true ∨ ∃ (k : Chan) (d p : Byte), s.cfg.nCh ≤ k.val ∧ i = getadcInstr k d p) → Answers i s 0 0 id id

/-- In every phase every command completes when the serial hardware takes bytes, and this is its frame: its bytes are taken by
count, and nothing changes but the transaction's own registers, the two request flags, the mask and a light sleep. What the command means
in a misframed state is notes/assumptions/4.md, the first byte driven is the old `tx` (notes/assumptions/9.md), what is left in
`tx` after wire byte 3 is decision D22. -/
def Obligations.EveryCommandCompletesInEveryPhaseAndItsFrame : Prop :=
  ∀ (s : State) (i : Instr), s.BusReady → i.wellFormed = true →
    ∃ t : State, exec i s = .next t ∧
      t = { s with
            power := s.power.awake
            adc := { s.adc with channelMask := (maskWritten s i).getD s.adc.channelMask }
            spi := { t.spi with halted := s.spi.halted, enabled := s.spi.enabled, auxDir := s.spi.auxDir }
            outputs := s.outputs ++
              [.miso (.driven s.spi.tx), .miso (.driven (answered s i).1), .miso (.driven (answered s i).2)] } ∧
      t.spi.phase = phaseAfterThree s.spi.phase ∧ t.spi.addr = addressTaken s i ∧
      t.spi.pending = (memRead s (addressTaken s i)).2 ∧ t.spi.tx = leftToDrive s t i ∧ t.spi.xferFlag = true ∧
      t.spi.auxToggleReq = (s.spi.auxToggleReq || decide (addressTaken s i = 0x03)) ∧
      t.spi.bootReq = (s.spi.bootReq || decide (addressTaken s i = 0x05)) ∧
      (∀ a : Byte, a ≠ 0x02 → memRead t a = memRead s a) ∧
      memRead t 0x02 = ((maskWritten s i).getD s.adc.channelMask, 0)

/-- A command has no step where SPI_BYTE has none: the serial hardware is disabled, or the block has halted. -/
def Obligations.CommandHasNoStepWhereTheBusHasNone : Prop :=
  ∀ (s : State) (i : Instr),
    (s.spi.halted = true → exec i s = .fault .halted) ∧
    (s.spi.halted = false → s.spi.enabled = false → exec i s = .refused (.noStep .spiByte))

/-- A mask written by SETMASK is read back by GETMASK, for all 256 values: in every build all 8 bits are kept (decision D19). The
second transaction's first byte is 0, the `tx` the first one left (decision D22, notes/assumptions/9.md). -/
def Obligations.MaskRoundTrip : Prop :=
  ∀ (s : State) (m p d' p' : Byte), s.BusReady → s.Framed →
    ∃ t u, exec (.setmask m p) s = .next t ∧ exec (.getmask d' p') t = .next u ∧
      u.outputs = t.outputs ++ [.miso (.driven 0), .miso (.driven m), .miso (.driven 0)] ∧ u.adc.channelMask = m

/-- Events that fall between the bytes of a transaction change neither its response bytes, nor what it writes, nor its
end. The byte driven in wire byte 1 is the old `tx` (notes/assumptions/9.md), `tx` is 0 at the end (decision D22). -/
def Obligations.InterleavedEventsDoNotDisturbATransaction : Prop :=
  ∀ (s t : State) (a d p : Byte) (es1 es2 : List Event), s.Inv → s.spi.phase = .expectAddress →
    (∀ e ∈ es1, quiet e = true) → (∀ e ∈ es2, quiet e = true) →
    runEvents ([.spiByte true a] ++ es1 ++ [.spiByte true d] ++ es2 ++ [.spiByte true p]) s = .next t →
      drivenBytes t.outputs = drivenBytes s.outputs ++ [s.spi.tx, (memRead s a).1, (memRead s a).2] ∧
      t.spi.phase = .expectAddress ∧ t.spi.tx = 0 ∧ t.adc.channelMask = (if a = 0x01 then d else s.adc.channelMask)

/-! ## The serial events -/

/-- R141: an addressed byte where an address is expected latches both response bytes and the requests of 0x03 and 0x05.
The byte driven is the old `tx` (notes/assumptions/9.md); that the requests are taken here, and the answers of 0x05 and 0x06, are
decision D24; `phase` 3 is read as an address (decision D11). -/
def Obligations.AddressByteLatchesBothResponses : Prop :=
  ∀ (s : State) (rx : Byte), s.BusReady → s.Framed →
    runEvent (.spiByte true rx) s =
      .next (s.afterByte1 rx (memRead s rx).1 (memRead s rx).2 fun r =>
        { r with
          auxToggleReq := r.auxToggleReq || decide (rx = 0x03)
          bootReq := r.bootReq || decide (rx = 0x05) })

/-- R142: wire byte 2 loads the second response byte and writes all of the mask for address 0x01, and nothing for any
other. It drives the old `tx` and signals the transfer (R140) and ends a light sleep (R217, decision D17). -/
def Obligations.SecondByteWritesTheMaskForSetmaskOnly : Prop :=
  ∀ (s : State) (rx : Byte), s.BusReady → s.spi.phase = .expectByte2 →
    runEvent (.spiByte true rx) s =
      .next (s.afterByte2 fun r => { r with channelMask := if s.spi.addr = 0x01 then rx else r.channelMask })

/-- R143: wire byte 3 is ignored, loads 0 (decision D22) and ends the transaction. -/
def Obligations.ThirdByteEndsTheTransaction : Prop :=
  ∀ (s : State) (rx : Byte), s.BusReady → s.spi.phase = .expectByte3 → runEvent (.spiByte true rx) s = .next s.afterByte3

/-- R153: a byte with the gate not asserted only signals that a transfer occurred; the block drives nothing (decision D22). R140: no
byte, addressed or not, has a step while the serial hardware is disabled (a refusal: notes/assumptions/5.md). -/
def Obligations.UnaddressedByteOnlySignalsTransfer : Prop :=
  ∀ (s : State) (rx : Byte),
    (s.BusReady →
      runEvent (.spiByte false rx) s =
        .next { s with
                power := s.power.awake
                spi := { s.spi with xferFlag := true }
                outputs := s.outputs ++ [.miso .hiZ] }) ∧
    (s.spi.halted = false → s.spi.enabled = false → ∀ cs : Bool, runEvent (.spiByte cs rx) s = .refused (.noStep .spiByte))

/-- R160: SPI_DESELECT resets the progress counter and nothing else of the responder; it has no step where the bus has none
(decision D23; a refusal: notes/assumptions/5.md). -/
def Obligations.DeselectResetsOnlyTheProgressCounter : Prop :=
  ∀ s : State,
    (s.BusReady →
      runEvent .spiDeselect s = .next { s with power := s.power.awake, spi := { s.spi with phase := .expectAddress } }) ∧
    (s.spi.halted = false → s.spi.enabled = false → runEvent .spiDeselect s = .refused (.noStep .spiDeselect))

/-- Two AUXTOG transactions with no pass between them toggle the pin once at the next complete pass. -/
def Obligations.ToggleRequestsMerge : Prop :=
  ∀ (s : State) (d p d' p' : Byte), s.BusReady → s.Framed → (s.power.fgPhase = .run ∨ s.power.fgPhase = .lightSleep) →
    suspends s.power.current = false →
    ∃ t u v, exec (.auxtog d p) s = .next t ∧ exec (.auxtog d' p') t = .next u ∧ runEvent .fgPass u = .next v ∧
      v.spi.auxDir = !s.spi.auxDir ∧ v.spi.auxToggleReq = false

/-- R161, R157: a complete pass consumes the transfer flag, performs a requested toggle once, and halts the block if the
bootloader was requested; the watchdog pulse is its last output, with which the watchdog's
period begins anew (R247, notes/assumptions/16.md). The transaction in progress is touched by `PowerDownExit`
alone. (Decisions D25, D26, D27.) -/
def Obligations.CompletePassPerformsTheDeferredEffects : Prop :=
  ∀ s : State, s.PassReady → suspends s.power.current = false →
    ∃ t, runEvent .fgPass s = .next t ∧ t.spi.xferFlag = false ∧ t.spi.auxToggleReq = false ∧
      t.spi.auxDir = (if s.spi.auxToggleReq then !s.spi.auxDir else s.spi.auxDir) ∧ t.spi.bootReq = s.spi.bootReq ∧
      t.spi.halted = s.spi.bootReq ∧ t.outputs.getLast? = some .wdtKick ∧ t.sinceKick = some 0 ∧
      t.spi.addr = s.spi.addr ∧ t.spi.pending = s.spi.pending ∧ t.spi.tx = s.spi.tx ∧
      (s.power.current ≠ .powerDownExit → t.spi.phase = s.spi.phase ∧ t.spi.enabled = s.spi.enabled)

/-- R157, R19: after the block has entered the bootloader no event but RESET has a step, and no command has one
(decision D25; the fault: notes/assumptions/5.md). The watchdog, a source of RESET, is in `WatchdogResetsWhereItsPolicyFires`. -/
def Obligations.HaltedBlockHasNoStepButReset : Prop :=
  ∀ s : State, s.spi.halted = true →
    (∀ e : Event, e ≠ .reset → runEvent e s = .fault .halted) ∧ (∀ i : Instr, exec i s = .fault .halted) ∧
    (s.schedule.head? ≠ some (.event .reset) → s.schedule.head? ≠ some .watchdog → step s = .fault .halted) ∧
    (∃ t, runEvent .reset s = .next t ∧ t.spi.halted = false)

/-- While the block runs, its output lines carry the registers that drive them (R8). -/
def Obligations.LinesCarryTheirRegisters : Prop :=
  ∀ (s : State) (n : Nat), s.spi.halted = false →
    s.line n .powerEnable = s.power.powerEnable ∧ s.line n .shutdownRequest = s.power.shutdownRequest ∧
    s.line n .auxToggle = s.spi.auxDir ∧ s.line n .buttonIn = s.debounce.buttonIn ∧
    s.line n .peerRunning = s.debounce.peerIn ∧ s.line n .adcOn = s.adc.enabled ∧ s.line n .spiOn = s.spi.enabled ∧
    s.adcSel n = s.adc.currentChannel

/-! ## The tick -/

/-- R100 to R103, R106: TICK shifts both masks, updates both held levels from the shifted masks, counts the three timers, ends
a light sleep, counts for the watchdog's period (notes/assumptions/16.md), and changes nothing else. (Decisions D4, D5, D6, D8, D18.) -/
def Obligations.TickShiftsFiltersAndCountsTimers : Prop :=
  ∀ (s : State) (b q : Bool), s.cfg.Legal → s.spi.halted = false →
    (s.power.fgPhase ≠ .deepSleep ∨ s.cfg.tickInDeepSleep = true) →
    ∃ t, runEvent (.tick b q) s = .next t ∧
      t = { s with debounce := t.debounce, timers := t.timers, power := s.power.awake, sinceKick := s.sinceKick.map (· + 1) } ∧
      t.debounce.buttonMask.toNat = (2 * s.debounce.buttonMask.toNat + b.toNat) % 2 ^ s.cfg.w ∧
      t.debounce.peerMask.toNat = (2 * s.debounce.peerMask.toNat + q.toNat) % 2 ^ s.cfg.w ∧
      t.debounce.buttonIn = (if t.debounce.buttonMask.toNat = 0 then true
        else if t.debounce.buttonMask.toNat = 2 ^ s.cfg.w - 1 then false else s.debounce.buttonIn) ∧
      t.debounce.peerIn = (if t.debounce.peerMask.toNat = 0 then true
        else if t.debounce.peerMask.toNat = 2 ^ s.cfg.w - 1 then false else s.debounce.peerIn) ∧
      t.timers.wakeup = (if s.timers.wakeup ≠ -1 ∧ s.timers.wakeup < s.cfg.timerMax then s.timers.wakeup + 1 else s.timers.wakeup) ∧
      t.timers.button = (if s.timers.button ≠ -1 ∧ s.timers.button < s.cfg.timerMax then s.timers.button + 1 else s.timers.button) ∧
      t.timers.idle = (if s.timers.idle ≠ -1 ∧ s.timers.idle < s.cfg.timerMax then s.timers.idle + 1 else s.timers.idle)

/-- The filter law: after at least W ticks a line reads Asserted exactly if its last W samples were all 0, and Released exactly
if they were all 1. -/
def Obligations.FilterDecidesByWAgreeingSamples : Prop :=
  ∀ (s : State) (samples : List (Bool × Bool)), s.cfg.Legal → s.spi.halted = false → s.power.fgPhase ≠ .deepSleep →
    s.cfg.w ≤ samples.length →
    ∃ t, runEvents (samples.map fun x => .tick x.1 x.2) s = .next t ∧
      (t.btn = .asserted ↔ ∀ x ∈ samples.drop (samples.length - s.cfg.w), x.1 = false) ∧
      (t.btn = .released ↔ ∀ x ∈ samples.drop (samples.length - s.cfg.w), x.1 = true) ∧
      (t.peer = .asserted ↔ ∀ x ∈ samples.drop (samples.length - s.cfg.w), x.2 = false) ∧
      (t.peer = .released ↔ ∀ x ∈ samples.drop (samples.length - s.cfg.w), x.2 = true)

/-! ## The sequencer -/

/-- R120: ADC_DONE has a step exactly while the converter is busy, stores the result in the slot of the channel in flight
whether or not it is still requested, and flags the completion. (Decisions D20, D34; a refusal elsewhere:
notes/assumptions/5.md. A channel the build does not have is in flight in no run: notes/assumptions/14.md.) -/
def Obligations.AdcDoneStoresTheResult : Prop :=
  ∀ (s : State) (v : Sample), s.spi.halted = false →
    (∀ k : Chan, s.adc.enabled = true → s.adc.currentChannel = some k → k.val < s.cfg.nCh → s.adc.complete = false →
      runEvent (.adcDone v) s =
        .next { s with power := s.power.awake, adc := { s.adc with value := s.adc.value.set k.val v, complete := true } }) ∧
    (s.adc.enabled = false ∨ s.adc.currentChannel = none ∨ s.adc.complete = true →
      runEvent (.adcDone v) s = .refused (.noStep .adcDone))

/-- R121: `first_channel` is the least requested channel, and -1 if none is requested. -/
def Obligations.FirstChannelIsTheLeastRequested : Prop :=
  ∀ (p : Config.Params) (m : Byte),
    (∀ k : Chan, firstChannel p m = some k ↔
      (k.val < p.nCh ∧ m.getLsbD k.val = true) ∧ ∀ j : Chan, j < k → ¬(j.val < p.nCh ∧ m.getLsbD j.val = true)) ∧
    (firstChannel p m = none ↔ ∀ j : Chan, ¬(j.val < p.nCh ∧ m.getLsbD j.val = true))

/-- R122: `next_channel` is the least requested channel strictly after c, else the least requested channel, else -1. -/
def Obligations.NextChannelIsTheCyclicSuccessor : Prop :=
  ∀ (p : Config.Params) (m : Byte) (c k : Chan),
    (nextChannel p m c = some k ↔
      (k.val < p.nCh ∧ m.getLsbD k.val = true) ∧
      ((c < k ∧ ∀ j : Chan, c < j → j < k → ¬(j.val < p.nCh ∧ m.getLsbD j.val = true)) ∨
       ((∀ j : Chan, c < j → ¬(j.val < p.nCh ∧ m.getLsbD j.val = true)) ∧
        ∀ j : Chan, j < k → ¬(j.val < p.nCh ∧ m.getLsbD j.val = true)))) ∧
    (nextChannel p m c = none ↔ ∀ j : Chan, ¬(j.val < p.nCh ∧ m.getLsbD j.val = true))

/-- R123 to R126 (decisions D20, D21): what the sequencer does in a complete pass of any state but `PowerDownExit` (for that state see
`PowerDownExitResumes`), with the pulses the pass puts out: after a completion the successor is chosen and started; otherwise
the unrequested slots are zeroed and an idle sequencer starts on the first requested channel. A disabled sequencer outside
the sleep, and a completion without a channel, occur in no run and are not in this statement. -/
def Obligations.CompletePassAdvancesTheSequencer : Prop :=
  ∀ s : State, s.PassReady → s.adc.enabled = true → suspends s.power.current = false → s.power.current ≠ .powerDownExit →
    ∃ t, runEvent .fgPass s = .next t ∧
      (∀ c : Chan, s.adc.complete = true → s.adc.currentChannel = some c →
        t.adc = { s.adc with complete := false, currentChannel := nextChannel s.cfg s.adc.channelMask c } ∧
        t.outputs = s.outputs ++ startPulse (nextChannel s.cfg s.adc.channelMask c) ++ [.wdtKick]) ∧
      (s.adc.complete = false →
        t.adc = { s.adc with value := t.adc.value, currentChannel := t.adc.currentChannel } ∧
        (∀ k : Chan, t.adc.value[k] =
          if k.val < s.cfg.nCh ∧ s.adc.channelMask.getLsbD k.val = false then 0 else s.adc.value[k]) ∧
        (∀ c : Chan, s.adc.currentChannel = some c →
          t.adc.currentChannel = some c ∧ t.outputs = s.outputs ++ [.wdtKick]) ∧
        (s.adc.currentChannel = none →
          t.adc.currentChannel = firstChannel s.cfg s.adc.channelMask ∧
          t.outputs = s.outputs ++ startPulse (firstChannel s.cfg s.adc.channelMask) ++ [.wdtKick]))

/-- Round-robin fairness: from a requested channel in flight, with as many completions as there are requested channels, each
completion followed by a pass and the power FSM staying in `Wait`, conversions are started on every requested channel exactly
once, the last start is on the channel the round began with, and every requested slot holds a result of the round. -/
def Obligations.RoundRobinVisitsEveryRequestedChannelOnce : Prop :=
  ∀ (s : State) (c : Chan) (vs : List Sample), s.cfg.Legal → s.PassReady → s.power.current = .wait → s.btn ≠ .asserted →
    s.timers.wakeup < s.cfg.wakeupTicks → s.spi.bootReq = false → s.adc.enabled = true → s.adc.complete = false →
    s.adc.currentChannel = some c → requested s.cfg s.adc.channelMask c = true →
    vs.length = (channels.filter (requested s.cfg s.adc.channelMask)).length →
    ∃ (t : State) (starts : List Chan),
      runEvents (vs.flatMap fun v => [.adcDone v, .fgPass]) s = .next t ∧
      conversionStarts t.outputs = conversionStarts s.outputs ++ starts ∧ starts.Nodup ∧
      (∀ k : Chan, k ∈ starts ↔ requested s.cfg s.adc.channelMask k = true) ∧ starts.getLast? = some c ∧
      t.adc.currentChannel = some c ∧ (∀ k : Chan, requested s.cfg s.adc.channelMask k = true → t.adc.value[k] ∈ vs)

/-! ## The power FSM -/

/-- The transition table: a pass takes the first row of the current state whose condition holds, and if none holds the state
stays and no output and no timer is written; the foreground is suspended by `ADCNoiseEntry` alone and the wake source disarmed by
`PowerDownExit` alone. `PowerDownEntry` is left by FG_PD_SLEEP and is not in the first part. R180: outside `Run` FG_PASS has no
step (a refusal: notes/assumptions/5.md). The order of the rows of one state is decision D14. -/
def Obligations.PassFollowsTheTransitionTable : Prop :=
  ∀ s : State,
    (s.PassReady → s.power.current ≠ .powerDownEntry →
      ∃ t, runEvent .fgPass s = .next t ∧
        (∀ r, rowTaken s = some r → r.TakenFrom s t) ∧
        (rowTaken s = none → t.power = s.power ∧ t.timers = s.timers) ∧
        t.power.fgPhase = (if s.power.current = .adcNoiseEntry then .lightSleep else .run) ∧
        t.power.wakeArmed = (s.power.wakeArmed && decide (s.power.current ≠ .powerDownExit)) ∧
        t.power.wakePending = (s.power.wakePending && decide (s.power.current ≠ .powerDownExit))) ∧
    (s.spi.halted = false → s.power.fgPhase ≠ .run → runEvent .fgPass s = .refused (.noStep .fgPass))

/-- R184, R186, R188, R195: four states that do their set-up and advance in one pass, whatever the lines and timers read. -/
def Obligations.EntryStatesSetUpAndAdvance : Prop :=
  ∀ s : State, s.PassReady →
    (s.power.current = .waitEntry → ∃ t, runEvent .fgPass s = .next t ∧
      t.power = { s.power with current := .wait, powerEnable := false, shutdownRequest := false } ∧
      t.timers = { s.timers with wakeup := 0 }) ∧
    (s.power.current = .buttonPress → ∃ t, runEvent .fgPass s = .next t ∧
      t.power = { s.power with current := .buttonRelease } ∧ t.timers = { s.timers with button := 0 }) ∧
    (s.power.current = .signaledOnEntry → ∃ t, runEvent .fgPass s = .next t ∧
      t.power = { s.power with current := .signaledOn, powerEnable := true } ∧ t.timers = { s.timers with wakeup := -1 }) ∧
    (s.power.current = .signaledOffEntry → ∃ t, runEvent .fgPass s = .next t ∧
      t.power = { s.power with current := .signaledOff, shutdownRequest := true } ∧ t.timers = s.timers)

/-- R182: `previous` records a steady state when a pass leaves it, and no other event but RESET writes it (decision D12). -/
def Obligations.PreviousRecordsTheSteadyStateLeft : Prop :=
  ∀ (s t : State) (e : Event), runEvent e s = .next t → e ≠ .reset →
    t.power.previous =
      if e = .fgPass ∧ t.power.current ≠ s.power.current ∧ s.power.current.steady = true then s.power.current
      else s.power.previous

/-- R187: how a press is classified when its release is seen (decisions D9 and D12). -/
def Obligations.ReleasedPressIsClassified : Prop :=
  ∀ s : State, s.PassReady → s.power.current = .buttonRelease →
    ∃ t, runEvent .fgPass s = .next t ∧
      (s.btn ≠ .released → t.power = s.power ∧ t.timers = s.timers) ∧
      (s.btn = .released →
        t.timers = { s.timers with button := -1 } ∧
        t.power = { s.power with current := t.power.current } ∧
        t.power.current =
          if s.power.previous = .wait then
            (if (s.cfg.buttonHoldTicks : Int) ≤ s.timers.button then .signaledOnEntry else .waitEntry)
          else if s.power.previous = .signaledOn then
            (if (s.cfg.buttonHoldTicks : Int) ≤ s.timers.button then .mcuOffEntry else .signaledOnEntry)
          else if s.power.previous = .mcuRunning then
            (if (s.cfg.buttonHoldTicks : Int) ≤ s.timers.button then .signaledOffEntry else .mcuRunningEntry)
          else .start)

/-- R199: the first half of `PowerDownEntry` arms the wake source with nothing pending, switches both enables off and suspends
the pass; nothing else changes and nothing is put out (decision D3). A requested bootloader waits for a complete pass
(notes/assumptions/21.md). -/
def Obligations.PowerDownEntryArmsAndSuspends : Prop :=
  ∀ s : State, s.PassReady → s.power.current = .powerDownEntry →
    runEvent .fgPass s =
      .next { s with
              power := { s.power with wakePending := false, wakeArmed := true, fgPhase := .pdArmed }
              adc := { s.adc with enabled := false }
              spi := { s.spi with enabled := false } }

/-- R193: `ADCNoiseEntry` suspends the pass in the light sleep; nothing else changes and nothing is put out
(decision D17). A requested bootloader waits for a complete pass (notes/assumptions/21.md). -/
def Obligations.LightSleepEntrySuspends : Prop :=
  ∀ s : State, s.PassReady → s.power.current = .adcNoiseEntry →
    runEvent .fgPass s = .next { s with power := { s.power with current := .adcNoiseExit, fgPhase := .lightSleep } }

/-- R213: FG_PD_SLEEP goes on to `PowerDownExit`, asleep unless a wake is pending; it has a step only when armed (decision
D3; a refusal elsewhere: notes/assumptions/5.md). In the sleep the watchdog's time is not known (notes/assumptions/16.md). -/
def Obligations.CheckThenSleepIsAtomic : Prop :=
  ∀ s : State, s.spi.halted = false →
    (s.power.fgPhase = .pdArmed →
      runEvent .fgPdSleep s =
        .next { s with
                power := { s.power with
                           current := .powerDownExit
                           fgPhase := if s.power.wakePending = true then .run else .deepSleep }
                sinceKick := if s.power.wakePending = true then s.sinceKick else none }) ∧
    (s.power.fgPhase ≠ .pdArmed → runEvent .fgPdSleep s = .refused (.noStep .fgPdSleep))

/-- R200, R128, R163: `PowerDownExit` resumes both components, discards the conversion and the transaction in progress,
disarms the wake source, re-arms the wake timer and returns to `WaitEntry`; the sequencer zeroes the unrequested slots and starts afresh in
the same pass. (Decision D18.) -/
def Obligations.PowerDownExitResumes : Prop :=
  ∀ s : State, s.PassReady → s.power.current = .powerDownExit →
    ∃ t, runEvent .fgPass s = .next t ∧
      t.power = { s.power with current := .waitEntry, wakeArmed := false, wakePending := false } ∧
      t.timers = { s.timers with wakeup := 0 } ∧
      t.spi.enabled = true ∧ t.spi.phase = .expectAddress ∧ t.spi.tx = s.spi.tx ∧
      t.adc.enabled = true ∧ t.adc.complete = false ∧ t.adc.channelMask = s.adc.channelMask ∧
      (∀ k : Chan, t.adc.value[k] =
        if k.val < s.cfg.nCh ∧ s.adc.channelMask.getLsbD k.val = false then 0 else s.adc.value[k]) ∧
      t.adc.currentChannel = firstChannel s.cfg s.adc.channelMask ∧
      conversionStarts t.outputs = conversionStarts s.outputs ++ (firstChannel s.cfg s.adc.channelMask).toList

/-- R215: a register value that names no state goes to `Start` and nothing else is written in that dispatch; the pass goes on
with the sequencer and the responder; two passes later the supply is off. -/
def Obligations.UndefinedStateRecovers : Prop :=
  ∀ (s : State) (n : Fin 14), s.PassReady → s.power.current = .undefined n →
    ∃ t, runEvent .fgPass s = .next t ∧ t.power = { s.power with current := .start } ∧ t.timers = s.timers ∧
      t.debounce = s.debounce ∧ t.adc = s.adcPass.adc ∧ t.spi = s.spiPass.spi ∧
      (s.spi.bootReq = false → ∃ u, runEvents [.fgPass, .fgPass] t = .next u ∧ u.power.powerEnable = false ∧ u.power.current = .wait)

/-- R216: WAKE flags itself and ends a deep sleep; it has a step only while the wake source is armed (decision D18; a
refusal elsewhere: notes/assumptions/5.md). -/
def Obligations.WakeFlagsAndEndsTheDeepSleep : Prop :=
  ∀ s : State, s.spi.halted = false →
    (s.power.wakeArmed = true →
      runEvent .wake s =
        .next { s with
                power := { s.power with
                           wakePending := true
                           fgPhase := if s.power.fgPhase = .deepSleep then .run else s.power.fgPhase } }) ∧
    (s.power.wakeArmed = false → runEvent .wake s = .refused (.noStep .wake))

/-- No wake is missed: if a WAKE falls between the arming and the check, among any ticks and other wakes, the block does not
sleep. -/
def Obligations.WakeBeforeTheCheckPreventsTheSleep : Prop :=
  ∀ (s : State) (es : List Event), s.spi.halted = false → s.power.fgPhase = .pdArmed → s.power.wakeArmed = true →
    (∀ e ∈ es, e = .wake ∨ ∃ b q, e = .tick b q) → .wake ∈ es →
    ∃ t, runEvents (es ++ [.fgPdSleep]) s = .next t ∧ t.power.fgPhase = .run ∧ t.power.current = .powerDownExit

/-- R217: every interrupt of the block that has a step ends the light sleep (decision D17). -/
def Obligations.EveryInterruptEndsTheLightSleep : Prop :=
  ∀ (s t : State) (e : Event), s.power.fgPhase = .lightSleep →
    (∃ b q, e = .tick b q) ∨ (∃ cs rx, e = .spiByte cs rx) ∨ e = .spiDeselect ∨ (∃ v, e = .adcDone v) →
    runEvent e s = .next t → t.power.fgPhase = .run

/-- R214: in the deep sleep only WAKE and RESET have a step, and TICK in a build with TICK_IN_DEEP_SLEEP, where it does not wake;
WAKE does have one (decision D18). -/
def Obligations.DeepSleepIsFrozenUntilWake : Prop :=
  ∀ s : State, s.Inv → s.spi.halted = false → s.power.fgPhase = .deepSleep →
    (∀ (e : Event) (t : State), runEvent e s = .next t →
      e = .wake ∨ e = .reset ∨ (s.cfg.tickInDeepSleep = true ∧ ∃ b q, e = .tick b q)) ∧
    (∃ t, runEvent .wake s = .next t ∧ t.power.fgPhase = .run) ∧
    (s.cfg.tickInDeepSleep = true → ∀ b q, ∃ t, runEvent (.tick b q) s = .next t ∧ t.power = s.power)

/-- R27: `power_enable` goes to 1 only in the dispatch of `SignaledOnEntry` and to 0 only in those of `WaitEntry` and
`MCUOffEntry`, or at RESET. -/
def Obligations.SupplyIsSwitchedOnlyByItsThreeDispatches : Prop :=
  ∀ (s t : State) (e : Event), runEvent e s = .next t →
    (s.power.powerEnable = false → t.power.powerEnable = true → e = .fgPass ∧ s.power.current = .signaledOnEntry) ∧
    (s.power.powerEnable = true → t.power.powerEnable = false →
      e = .reset ∨ (e = .fgPass ∧ (s.power.current = .waitEntry ∨ s.power.current = .mcuOffEntry)))

/-- R28: `shutdown_request` goes to 1 only in the dispatch of `SignaledOffEntry` and to 0 only in those of `WaitEntry` and
`SignaledOff`, or at RESET. -/
def Obligations.ShutdownIsRequestedOnlyByItsDispatches : Prop :=
  ∀ (s t : State) (e : Event), runEvent e s = .next t →
    (s.power.shutdownRequest = false → t.power.shutdownRequest = true →
      e = .fgPass ∧ s.power.current = .signaledOffEntry) ∧
    (s.power.shutdownRequest = true → t.power.shutdownRequest = false →
      e = .reset ∨ (e = .fgPass ∧ (s.power.current = .waitEntry ∨ s.power.current = .signaledOff)))

/-- R51: which event may write which register; an interrupt writes where the foreground stands only to wake it. The last
clause is about the model's own `sinceKick` (notes/assumptions/16.md). -/
def Obligations.OnlyTheListedEventsWriteARegister : Prop :=
  ∀ (s t : State) (e : Event), runEvent e s = .next t → e ≠ .reset →
    (t.debounce = s.debounce ∨ e.kind? = some .tick) ∧
    (t.timers = s.timers ∨ e.kind? ∈ [some .tick, some .fgPass]) ∧
    (t.power.current = s.power.current ∧ t.power.previous = s.power.previous ∨ e.kind? ∈ [some .fgPass, some .fgPdSleep]) ∧
    (t.power.powerEnable = s.power.powerEnable ∧ t.power.shutdownRequest = s.power.shutdownRequest ∨ e.kind? = some .fgPass) ∧
    (t.power.fgPhase = s.power.fgPhase ∨ t.power.fgPhase = .run ∨ e.kind? ∈ [some .fgPass, some .fgPdSleep]) ∧
    (t.power.wakeArmed = s.power.wakeArmed ∨ e.kind? = some .fgPass) ∧
    (t.power.wakePending = s.power.wakePending ∨ e.kind? ∈ [some .wake, some .fgPass]) ∧
    (t.adc.channelMask = s.adc.channelMask ∨ e.kind? = some .spiByte) ∧
    (t.adc.value = s.adc.value ∨ e.kind? ∈ [some .adcDone, some .fgPass]) ∧
    (t.adc.currentChannel = s.adc.currentChannel ∨ e.kind? = some .fgPass) ∧
    (t.adc.complete = s.adc.complete ∨ e.kind? ∈ [some .adcDone, some .fgPass]) ∧
    (t.adc.enabled = s.adc.enabled ∨ e.kind? = some .fgPass) ∧
    (t.spi.phase = s.spi.phase ∨ e.kind? ∈ [some .spiByte, some .spiDeselect, some .fgPass]) ∧
    (t.spi.addr = s.spi.addr ∧ t.spi.pending = s.spi.pending ∧ t.spi.tx = s.spi.tx ∨ e.kind? = some .spiByte) ∧
    (t.spi.xferFlag = s.spi.xferFlag ∧ t.spi.auxToggleReq = s.spi.auxToggleReq ∧ t.spi.bootReq = s.spi.bootReq ∨
      e.kind? ∈ [some .spiByte, some .fgPass]) ∧
    (t.spi.halted = s.spi.halted ∨ e.kind? = some .fgPass) ∧
    (t.spi.enabled = s.spi.enabled ∨ e.kind? = some .fgPass) ∧
    (t.spi.auxDir = s.spi.auxDir ∨ e.kind? = some .fgPass) ∧
    (t.sinceKick = s.sinceKick ∨ e.kind? ∈ [some .tick, some .fgPass, some .fgPdSleep])

/-- R233, R247, R260: the watchdog is RESET where it is present, its period has passed and its policy says so of the event history,
and has no step elsewhere (a refusal: notes/assumptions/5.md). It does not fire while the pulses keep coming within the period: from
a kick or a RESET no later than `m` ticks ago, no run of events that keeps the ticks within the period leads to where it fires,
the halt and the deep sleep apart, where no tick counts the time. Policy and period are free values (notes/assumptions/16.md). -/
def Obligations.WatchdogResetsWhereItsPolicyFires : Prop :=
  ∀ s : State,
    (∀ inputs : List Input, s.schedule = .watchdog :: inputs →
      step s =
        if s.cfg.wdtPresent = true ∧ Config.wdtPolicy s.history = true ∧
            (s.spi.halted = true ∨ ∀ n, s.sinceKick = some n → Config.wdtPeriod < n) then
          .next { State.resetWith s.cfg with schedule := inputs, outputs := [], history := .watchdog :: s.history }
        else .refused (.noStep .watchdog)) ∧
    (∀ (es : List Event) (t : State) (m : Nat) (inputs : List Input), s.sinceKick = some m → .fgPdSleep ∉ es →
      m + ticksIn es ≤ Config.wdtPeriod → runEvents es s = .next t → t.spi.halted = false →
      (∃ n, t.sinceKick = some n ∧ n ≤ m + ticksIn es) ∧
      step { t with schedule := .watchdog :: inputs } = .refused (.noStep .watchdog))
end

