-- ==== Sys2Proof/Laws/State.lean ====
section
/-! SUPPORT. Laws/State.lean: one lemma per field per update of the state, so that no later proof unfolds a record update. -/

namespace Sys2Proof.Machine

/-! ## `emit` -/

@[simp] theorem State.emit_cfg (s : State) (o : Output) : (s.emit o).cfg = s.cfg := rfl
@[simp] theorem State.emit_debounce (s : State) (o : Output) : (s.emit o).debounce = s.debounce := rfl
@[simp] theorem State.emit_timers (s : State) (o : Output) : (s.emit o).timers = s.timers := rfl
@[simp] theorem State.emit_power (s : State) (o : Output) : (s.emit o).power = s.power := rfl
@[simp] theorem State.emit_adc (s : State) (o : Output) : (s.emit o).adc = s.adc := rfl
@[simp] theorem State.emit_spi (s : State) (o : Output) : (s.emit o).spi = s.spi := rfl
@[simp] theorem State.emit_schedule (s : State) (o : Output) : (s.emit o).schedule = s.schedule := rfl
@[simp] theorem State.emit_history (s : State) (o : Output) : (s.emit o).history = s.history := rfl
@[simp] theorem State.emit_sinceKick (s : State) (o : Output) : (s.emit o).sinceKick = s.sinceKick := rfl
@[simp] theorem State.emit_outputs (s : State) (o : Output) : (s.emit o).outputs = s.outputs ++ [o] := rfl

/-! ## `beginStep` -/

@[simp] theorem State.beginStep_cfg (s : State) (x : Input) (rest : List Input) : (s.beginStep x rest).cfg = s.cfg := rfl
@[simp] theorem State.beginStep_debounce (s : State) (x : Input) (rest : List Input) : (s.beginStep x rest).debounce = s.debounce := rfl
@[simp] theorem State.beginStep_timers (s : State) (x : Input) (rest : List Input) : (s.beginStep x rest).timers = s.timers := rfl
@[simp] theorem State.beginStep_power (s : State) (x : Input) (rest : List Input) : (s.beginStep x rest).power = s.power := rfl
@[simp] theorem State.beginStep_adc (s : State) (x : Input) (rest : List Input) : (s.beginStep x rest).adc = s.adc := rfl
@[simp] theorem State.beginStep_spi (s : State) (x : Input) (rest : List Input) : (s.beginStep x rest).spi = s.spi := rfl
@[simp] theorem State.beginStep_schedule (s : State) (x : Input) (rest : List Input) : (s.beginStep x rest).schedule = rest := rfl
@[simp] theorem State.beginStep_outputs (s : State) (x : Input) (rest : List Input) : (s.beginStep x rest).outputs = [] := rfl
@[simp] theorem State.beginStep_history (s : State) (x : Input) (rest : List Input) : (s.beginStep x rest).history = x :: s.history := rfl
@[simp] theorem State.beginStep_sinceKick (s : State) (x : Input) (rest : List Input) : (s.beginStep x rest).sinceKick = s.sinceKick := rfl

/-! ## `kickWatchdog` -/

@[simp] theorem State.kickWatchdog_cfg (s : State) : s.kickWatchdog.cfg = s.cfg := rfl
@[simp] theorem State.kickWatchdog_debounce (s : State) : s.kickWatchdog.debounce = s.debounce := rfl
@[simp] theorem State.kickWatchdog_timers (s : State) : s.kickWatchdog.timers = s.timers := rfl
@[simp] theorem State.kickWatchdog_power (s : State) : s.kickWatchdog.power = s.power := rfl
@[simp] theorem State.kickWatchdog_adc (s : State) : s.kickWatchdog.adc = s.adc := rfl
@[simp] theorem State.kickWatchdog_spi (s : State) : s.kickWatchdog.spi = s.spi := rfl
@[simp] theorem State.kickWatchdog_schedule (s : State) : s.kickWatchdog.schedule = s.schedule := rfl
@[simp] theorem State.kickWatchdog_history (s : State) : s.kickWatchdog.history = s.history := rfl
@[simp] theorem State.kickWatchdog_sinceKick (s : State) : s.kickWatchdog.sinceKick = some 0 := rfl
@[simp] theorem State.kickWatchdog_outputs (s : State) : s.kickWatchdog.outputs = s.outputs ++ [.wdtKick] := rfl

/-! ## `goto` -/

@[simp] theorem State.goto_cfg (s : State) (S : PowerState) : (s.goto S).cfg = s.cfg := rfl
@[simp] theorem State.goto_debounce (s : State) (S : PowerState) : (s.goto S).debounce = s.debounce := rfl
@[simp] theorem State.goto_timers (s : State) (S : PowerState) : (s.goto S).timers = s.timers := rfl
@[simp] theorem State.goto_power (s : State) (S : PowerState) : (s.goto S).power = s.power.goto S := rfl
@[simp] theorem State.goto_adc (s : State) (S : PowerState) : (s.goto S).adc = s.adc := rfl
@[simp] theorem State.goto_spi (s : State) (S : PowerState) : (s.goto S).spi = s.spi := rfl
@[simp] theorem State.goto_schedule (s : State) (S : PowerState) : (s.goto S).schedule = s.schedule := rfl
@[simp] theorem State.goto_history (s : State) (S : PowerState) : (s.goto S).history = s.history := rfl
@[simp] theorem State.goto_sinceKick (s : State) (S : PowerState) : (s.goto S).sinceKick = s.sinceKick := rfl
@[simp] theorem State.goto_outputs (s : State) (S : PowerState) : (s.goto S).outputs = s.outputs := rfl

/-! ## `recoverToStart` -/

@[simp] theorem State.recoverToStart_cfg (s : State) : s.recoverToStart.cfg = s.cfg := rfl
@[simp] theorem State.recoverToStart_debounce (s : State) : s.recoverToStart.debounce = s.debounce := rfl
@[simp] theorem State.recoverToStart_timers (s : State) : s.recoverToStart.timers = s.timers := rfl
@[simp] theorem State.recoverToStart_power (s : State) : s.recoverToStart.power = { s.power with current := .start } := rfl
@[simp] theorem State.recoverToStart_adc (s : State) : s.recoverToStart.adc = s.adc := rfl
@[simp] theorem State.recoverToStart_spi (s : State) : s.recoverToStart.spi = s.spi := rfl
@[simp] theorem State.recoverToStart_schedule (s : State) : s.recoverToStart.schedule = s.schedule := rfl
@[simp] theorem State.recoverToStart_history (s : State) : s.recoverToStart.history = s.history := rfl
@[simp] theorem State.recoverToStart_sinceKick (s : State) : s.recoverToStart.sinceKick = s.sinceKick := rfl
@[simp] theorem State.recoverToStart_outputs (s : State) : s.recoverToStart.outputs = s.outputs := rfl

/-! ## `wakeLight` -/

@[simp] theorem State.wakeLight_cfg (s : State) : s.wakeLight.cfg = s.cfg := rfl
@[simp] theorem State.wakeLight_debounce (s : State) : s.wakeLight.debounce = s.debounce := rfl
@[simp] theorem State.wakeLight_timers (s : State) : s.wakeLight.timers = s.timers := rfl
@[simp] theorem State.wakeLight_power (s : State) : s.wakeLight.power = s.power.wakeLight := rfl
@[simp] theorem State.wakeLight_adc (s : State) : s.wakeLight.adc = s.adc := rfl
@[simp] theorem State.wakeLight_spi (s : State) : s.wakeLight.spi = s.spi := rfl
@[simp] theorem State.wakeLight_schedule (s : State) : s.wakeLight.schedule = s.schedule := rfl
@[simp] theorem State.wakeLight_history (s : State) : s.wakeLight.history = s.history := rfl
@[simp] theorem State.wakeLight_sinceKick (s : State) : s.wakeLight.sinceKick = s.sinceKick := rfl
@[simp] theorem State.wakeLight_outputs (s : State) : s.wakeLight.outputs = s.outputs := rfl

/-! ## `startConversion` -/

@[simp] theorem State.startConversion_cfg (s : State) (k : Chan) : (s.startConversion k).cfg = s.cfg := rfl
@[simp] theorem State.startConversion_debounce (s : State) (k : Chan) : (s.startConversion k).debounce = s.debounce := rfl
@[simp] theorem State.startConversion_timers (s : State) (k : Chan) : (s.startConversion k).timers = s.timers := rfl
@[simp] theorem State.startConversion_power (s : State) (k : Chan) : (s.startConversion k).power = s.power := rfl
@[simp] theorem State.startConversion_adc (s : State) (k : Chan) : (s.startConversion k).adc = { s.adc with currentChannel := some k } := rfl
@[simp] theorem State.startConversion_spi (s : State) (k : Chan) : (s.startConversion k).spi = s.spi := rfl
@[simp] theorem State.startConversion_schedule (s : State) (k : Chan) : (s.startConversion k).schedule = s.schedule := rfl
@[simp] theorem State.startConversion_history (s : State) (k : Chan) : (s.startConversion k).history = s.history := rfl
@[simp] theorem State.startConversion_sinceKick (s : State) (k : Chan) : (s.startConversion k).sinceKick = s.sinceKick := rfl
@[simp] theorem State.startConversion_outputs (s : State) (k : Chan) : (s.startConversion k).outputs = s.outputs ++ [.adcStart k] := rfl

/-! ## `adcZero` -/

@[simp] theorem State.adcZero_cfg (s : State) : s.adcZero.cfg = s.cfg := rfl
@[simp] theorem State.adcZero_debounce (s : State) : s.adcZero.debounce = s.debounce := rfl
@[simp] theorem State.adcZero_timers (s : State) : s.adcZero.timers = s.timers := rfl
@[simp] theorem State.adcZero_power (s : State) : s.adcZero.power = s.power := rfl
@[simp] theorem State.adcZero_adc (s : State) : s.adcZero.adc = { s.adc with value := zeroUnrequested s.cfg s.adc.channelMask s.adc.value } := rfl
@[simp] theorem State.adcZero_spi (s : State) : s.adcZero.spi = s.spi := rfl
@[simp] theorem State.adcZero_schedule (s : State) : s.adcZero.schedule = s.schedule := rfl
@[simp] theorem State.adcZero_history (s : State) : s.adcZero.history = s.history := rfl
@[simp] theorem State.adcZero_sinceKick (s : State) : s.adcZero.sinceKick = s.sinceKick := rfl
@[simp] theorem State.adcZero_outputs (s : State) : s.adcZero.outputs = s.outputs := rfl

/-! ## `spiPass` -/

@[simp] theorem State.spiPass_cfg (s : State) : s.spiPass.cfg = s.cfg := rfl
@[simp] theorem State.spiPass_debounce (s : State) : s.spiPass.debounce = s.debounce := rfl
@[simp] theorem State.spiPass_timers (s : State) : s.spiPass.timers = s.timers := rfl
@[simp] theorem State.spiPass_power (s : State) : s.spiPass.power = s.power := rfl
@[simp] theorem State.spiPass_adc (s : State) : s.spiPass.adc = s.adc := rfl
@[simp] theorem State.spiPass_spi (s : State) : s.spiPass.spi = s.spi.consumeTransfer.performToggle.performBoot := rfl
@[simp] theorem State.spiPass_schedule (s : State) : s.spiPass.schedule = s.schedule := rfl
@[simp] theorem State.spiPass_history (s : State) : s.spiPass.history = s.history := rfl
@[simp] theorem State.spiPass_sinceKick (s : State) : s.spiPass.sinceKick = s.sinceKick := rfl
@[simp] theorem State.spiPass_outputs (s : State) : s.spiPass.outputs = s.outputs := rfl

/-! ## `tick` -/

@[simp] theorem State.tick_cfg (s : State) (b q : Bool) : (s.tick b q).cfg = s.cfg := rfl
@[simp] theorem State.tick_debounce (s : State) (b q : Bool) : (s.tick b q).debounce = s.debounce.sample s.cfg.w b q := rfl
@[simp] theorem State.tick_timers (s : State) (b q : Bool) : (s.tick b q).timers = s.timers.count s.cfg.timerMax := rfl
@[simp] theorem State.tick_power (s : State) (b q : Bool) : (s.tick b q).power = s.power.wakeLight := rfl
@[simp] theorem State.tick_adc (s : State) (b q : Bool) : (s.tick b q).adc = s.adc := rfl
@[simp] theorem State.tick_spi (s : State) (b q : Bool) : (s.tick b q).spi = s.spi := rfl
@[simp] theorem State.tick_schedule (s : State) (b q : Bool) : (s.tick b q).schedule = s.schedule := rfl
@[simp] theorem State.tick_history (s : State) (b q : Bool) : (s.tick b q).history = s.history := rfl
@[simp] theorem State.tick_sinceKick (s : State) (b q : Bool) : (s.tick b q).sinceKick = s.sinceKick.map (· + 1) := rfl
@[simp] theorem State.tick_outputs (s : State) (b q : Bool) : (s.tick b q).outputs = s.outputs := rfl

/-! ## `conversionDone` -/

@[simp] theorem State.conversionDone_cfg (s : State) (v : Sample) : (s.conversionDone v).cfg = s.cfg := rfl
@[simp] theorem State.conversionDone_debounce (s : State) (v : Sample) : (s.conversionDone v).debounce = s.debounce := rfl
@[simp] theorem State.conversionDone_timers (s : State) (v : Sample) : (s.conversionDone v).timers = s.timers := rfl
@[simp] theorem State.conversionDone_power (s : State) (v : Sample) : (s.conversionDone v).power = s.power.wakeLight := rfl
@[simp] theorem State.conversionDone_adc (s : State) (v : Sample) : (s.conversionDone v).adc = (s.adc.store s.cfg v).signalComplete := rfl
@[simp] theorem State.conversionDone_spi (s : State) (v : Sample) : (s.conversionDone v).spi = s.spi := rfl
@[simp] theorem State.conversionDone_schedule (s : State) (v : Sample) : (s.conversionDone v).schedule = s.schedule := rfl
@[simp] theorem State.conversionDone_history (s : State) (v : Sample) : (s.conversionDone v).history = s.history := rfl
@[simp] theorem State.conversionDone_sinceKick (s : State) (v : Sample) : (s.conversionDone v).sinceKick = s.sinceKick := rfl
@[simp] theorem State.conversionDone_outputs (s : State) (v : Sample) : (s.conversionDone v).outputs = s.outputs := rfl

/-! ## `deselect` -/

@[simp] theorem State.deselect_cfg (s : State) : s.deselect.cfg = s.cfg := rfl
@[simp] theorem State.deselect_debounce (s : State) : s.deselect.debounce = s.debounce := rfl
@[simp] theorem State.deselect_timers (s : State) : s.deselect.timers = s.timers := rfl
@[simp] theorem State.deselect_power (s : State) : s.deselect.power = s.power.wakeLight := rfl
@[simp] theorem State.deselect_adc (s : State) : s.deselect.adc = s.adc := rfl
@[simp] theorem State.deselect_spi (s : State) : s.deselect.spi = { s.spi with phase := .expectAddress } := rfl
@[simp] theorem State.deselect_schedule (s : State) : s.deselect.schedule = s.schedule := rfl
@[simp] theorem State.deselect_history (s : State) : s.deselect.history = s.history := rfl
@[simp] theorem State.deselect_sinceKick (s : State) : s.deselect.sinceKick = s.sinceKick := rfl
@[simp] theorem State.deselect_outputs (s : State) : s.deselect.outputs = s.outputs := rfl

/-! ## The FSM registers under `goto` and `wakeLight` -/

@[simp] theorem PowerRegs.goto_current (r : PowerRegs) (S : PowerState) : (r.goto S).current = S := rfl
@[simp] theorem PowerRegs.goto_previous (r : PowerRegs) (S : PowerState) : (r.goto S).previous = if r.current.steady then r.current else r.previous := rfl
@[simp] theorem PowerRegs.goto_powerEnable (r : PowerRegs) (S : PowerState) : (r.goto S).powerEnable = r.powerEnable := rfl
@[simp] theorem PowerRegs.goto_shutdownRequest (r : PowerRegs) (S : PowerState) : (r.goto S).shutdownRequest = r.shutdownRequest := rfl
@[simp] theorem PowerRegs.goto_fgPhase (r : PowerRegs) (S : PowerState) : (r.goto S).fgPhase = r.fgPhase := rfl
@[simp] theorem PowerRegs.goto_wakeArmed (r : PowerRegs) (S : PowerState) : (r.goto S).wakeArmed = r.wakeArmed := rfl
@[simp] theorem PowerRegs.goto_wakePending (r : PowerRegs) (S : PowerState) : (r.goto S).wakePending = r.wakePending := rfl
@[simp] theorem PowerRegs.wakeLight_current (r : PowerRegs) : r.wakeLight.current = r.current := rfl
@[simp] theorem PowerRegs.wakeLight_previous (r : PowerRegs) : r.wakeLight.previous = r.previous := rfl
@[simp] theorem PowerRegs.wakeLight_powerEnable (r : PowerRegs) : r.wakeLight.powerEnable = r.powerEnable := rfl
@[simp] theorem PowerRegs.wakeLight_shutdownRequest (r : PowerRegs) : r.wakeLight.shutdownRequest = r.shutdownRequest := rfl
@[simp] theorem PowerRegs.wakeLight_fgPhase (r : PowerRegs) : r.wakeLight.fgPhase = if r.fgPhase = .lightSleep then .run else r.fgPhase := rfl
@[simp] theorem PowerRegs.wakeLight_wakeArmed (r : PowerRegs) : r.wakeLight.wakeArmed = r.wakeArmed := rfl
@[simp] theorem PowerRegs.wakeLight_wakePending (r : PowerRegs) : r.wakeLight.wakePending = r.wakePending := rfl

/-! ## The reset state -/

@[simp] theorem State.resetWith_cfg (p : Config.Params) : (State.resetWith p).cfg = p := rfl
@[simp] theorem State.resetWith_schedule (p : Config.Params) : (State.resetWith p).schedule = [] := rfl
@[simp] theorem State.resetWith_history (p : Config.Params) : (State.resetWith p).history = [] := rfl
@[simp] theorem State.resetWith_sinceKick (p : Config.Params) : (State.resetWith p).sinceKick = some 0 := rfl
@[simp] theorem State.resetWith_outputs (p : Config.Params) : (State.resetWith p).outputs = [] := rfl
@[simp] theorem State.resetWith_timers (p : Config.Params) : (State.resetWith p).timers = TimerRegs.stopped := rfl

end Sys2Proof.Machine
end

