-- ==== Sys2Proof/Laws/Ops.lean ====
section
/-! SUPPORT. Laws/Ops.lean: what each shared operation of Machine/Ops.lean, Flags.lean and Operands.lean can do, said once. -/

namespace Sys2Proof.Machine

/-! ## Preconditions and sequences -/

/-- An event takes a step exactly when the block has not halted and the precondition holds, and then to the state named. -/
theorem whenEnabled_next_iff {k : EventKind} {enabled : Bool} {s t u : State} :
    whenEnabled k enabled s t = .next u ↔ s.spi.halted = false ∧ enabled = true ∧ t = u := by
  unfold whenEnabled
  cases s.spi.halted <;> cases enabled <;> simp

theorem whenEnabled_halted {k : EventKind} {enabled : Bool} {s t : State} (h : s.spi.halted = true) :
    whenEnabled k enabled s t = .fault .halted := by simp [whenEnabled, h]

theorem whenEnabled_noStep {k : EventKind} {enabled : Bool} {s t : State} (h : s.spi.halted = false)
    (he : enabled = false) : whenEnabled k enabled s t = .refused (.noStep k) := by simp [whenEnabled, h, he]

theorem whenEnabled_step {k : EventKind} {enabled : Bool} {s t : State} (h : s.spi.halted = false)
    (he : enabled = true) : whenEnabled k enabled s t = .next t := whenEnabled_next_iff.2 ⟨h, he, rfl⟩

@[simp] theorem andThen_next (t : State) (f : State → Result) : andThen (.next t) f = f t := rfl
@[simp] theorem andThen_fault (e : Fault) (f : State → Result) : andThen (.fault e) f = .fault e := rfl
@[simp] theorem andThen_refused (e : Refusal) (f : State → Result) : andThen (.refused e) f = .refused e := rfl

/-- A sequence answers a next state exactly when its first part does and the rest does from there. -/
theorem andThen_next_iff {r : Result} {f : State → Result} {u : State} :
    andThen r f = .next u ↔ ∃ t, r = .next t ∧ f t = .next u := by
  cases r <;> simp

@[simp] theorem runEvents_nil (s : State) : runEvents [] s = .next s := rfl
@[simp] theorem runEvents_cons (e : Event) (es : List Event) (s : State) :
    runEvents (e :: es) s = andThen (runEvent e s) (runEvents es) := rfl

/-- A run of events is the run of its first part followed by the run of its rest. -/
theorem runEvents_append (es fs : List Event) (s : State) :
    runEvents (es ++ fs) s = andThen (runEvents es s) (runEvents fs) := by
  induction es generalizing s with
  | nil => rfl
  | cons e es ih =>
    simp only [List.cons_append, runEvents_cons]
    cases runEvent e s <;> simp [ih]

/-! ## Filters and timers -/

theorem ones_toNat {w : Nat} (h : w ≤ 16) : (ones w).toNat = 2 ^ w - 1 := by
  have : 2 ^ w ≤ 2 ^ 16 := Nat.pow_le_pow_right (by decide) h
  simp only [ones, BitVec.toNat_ofNat]
  exact Nat.mod_eq_of_lt (by omega)

/-- Bit i of ONES(w) (R10). -/
theorem ones_getLsbD {w : Nat} (h : w ≤ 16) (i : Nat) : (ones w).getLsbD i = decide (i < w) := by
  have h1 : (ones w).getLsbD i = (ones w).toNat.testBit i := rfl
  rw [h1, ones_toNat h, Nat.testBit_two_pow_sub_one]

/-- The shift as a number: the new sample is the low bit and the bit shifted out is lost (R101, R108). -/
theorem shiftIn_toNat {w : Nat} (h : w ≤ 16) (m : MaskBits) (raw : Bool) :
    (shiftIn w m raw).toNat = (2 * m.toNat + raw.toNat) % 2 ^ w := by
  have hm := m.isLt
  have hor : ((m <<< 1) ||| (BitVec.ofBool raw).setWidth 16).toNat = (2 * m.toNat + raw.toNat) % 2 ^ 16 := by
    have h2 : (BitVec.ofBool raw).setWidth 16 = BitVec.ofNat 16 raw.toNat := by cases raw <;> decide
    rw [h2]
    have : (m <<< 1) ||| BitVec.ofNat 16 raw.toNat = (m <<< 1) + BitVec.ofNat 16 raw.toNat := by
      apply (BitVec.add_eq_or_of_and_eq_zero _ _ _).symm
      ext i hi
      cases raw <;> simp
      · omega
    rw [this]
    simp [BitVec.toNat_add, BitVec.toNat_shiftLeft, Nat.shiftLeft_eq]
    omega
  rw [shiftIn, BitVec.toNat_and, ones_toNat h, hor, Nat.and_two_pow_sub_one_eq_mod]
  exact Nat.mod_mod_of_dvd _ (Nat.pow_dvd_pow 2 h)

/-- Bit i of the shifted register: the new sample at bit 0, the register's bit i - 1 elsewhere, nothing at or above W. -/
theorem shiftIn_getLsbD {w : Nat} (h : w ≤ 16) (m : MaskBits) (raw : Bool) (i : Nat) :
    (shiftIn w m raw).getLsbD i = (decide (i < w) && if i = 0 then raw else m.getLsbD (i - 1)) := by
  rw [shiftIn, BitVec.getLsbD_and, BitVec.getLsbD_or, ones_getLsbD h]
  rcases Nat.lt_or_ge i w with hi | hi
  · rcases i with _ | i
    · simp [hi]
    · have h16 : i + 1 < 16 := by omega
      simp [hi, h16, BitVec.getLsbD_eq_getElem (show i < 16 by omega)]
  · simp [Nat.not_lt.2 hi]

theorem shiftIn_fits {w : Nat} (h : w ≤ 16) (m : MaskBits) (raw : Bool) : (shiftIn w m raw).toNat < 2 ^ w := by
  rw [shiftIn_toNat h]
  exact Nat.mod_lt _ (Nat.two_pow_pos w)

theorem db_asserted_iff {w : Nat} {m : MaskBits} : db w m = .asserted ↔ m = 0 := by
  unfold db; split <;> simp_all; split <;> simp

/-- With at least one sample, ONES(W) is not 0, so the two stable readings exclude each other. -/
theorem ones_ne_zero {w : Nat} (h1 : 1 ≤ w) (h : w ≤ 16) : ones w ≠ 0 := by
  intro h0
  have h2 := ones_toNat h
  rw [h0] at h2
  have : 2 ^ 1 ≤ 2 ^ w := Nat.pow_le_pow_right (by decide) h1
  simp at h2
  omega

theorem db_released_iff {w : Nat} {m : MaskBits} (h1 : 1 ≤ w) (h : w ≤ 16) : db w m = .released ↔ m = ones w := by
  unfold db
  split
  · next hm => subst hm; simpa using (ones_ne_zero h1 h).symm
  · split <;> simp_all

theorem expired_iff {t : Int} {th : Nat} : expired t th = true ↔ (th : Int) ≤ t := by simp [expired]

/-- A threshold is never met by an inactive timer (R181). -/
theorem expired_inactive (th : Nat) : expired (-1) th = false := by
  simp [expired]
  omega

/-- Counting keeps a timer legal (R24, R106). -/
theorem countTimer_legal {m t : Int} (h : -1 ≤ t ∧ t ≤ m) : -1 ≤ countTimer m t ∧ countTimer m t ≤ m := by
  unfold countTimer; split <;> omega

/-- Counting neither arms nor disarms a legal timer (R106). -/
theorem countTimer_active {m t : Int} (h : -1 ≤ t) : countTimer m t ≠ -1 ↔ t ≠ -1 := by
  unfold countTimer; split <;> omega

/-! ## Channels and the value table -/

theorem mem_channels (k : Chan) : k ∈ channels := by revert k; decide

theorem channels_nodup : channels.Nodup := by decide

/-- `find?` over the channels gives the least channel that satisfies the predicate. -/
theorem find_channels_some (q : Chan → Bool) (k : Chan) :
    channels.find? q = some k ↔ q k = true ∧ ∀ j : Chan, j < k → q j = false := by
  have h : ∀ b0 b1 b2 b3 b4 b5 b6 b7 : Bool, ∀ k : Chan,
      (channels.find? (fun j => #v[b0, b1, b2, b3, b4, b5, b6, b7][j]) = some k ↔
        #v[b0, b1, b2, b3, b4, b5, b6, b7][k] = true ∧ ∀ j : Chan, j < k → #v[b0, b1, b2, b3, b4, b5, b6, b7][j] = false) := by
    decide
  have hq : q = fun j => #v[q 0, q 1, q 2, q 3, q 4, q 5, q 6, q 7][j] := by
    funext j; revert j; simp [Fin.forall_fin_succ]
  rw [hq]
  exact h _ _ _ _ _ _ _ _ k

theorem find_channels_none (q : Chan → Bool) : channels.find? q = none ↔ ∀ j : Chan, q j = false := by
  rw [List.find?_eq_none]
  exact ⟨fun h j => by simpa using h j (mem_channels j), fun h j _ => by simp [h j]⟩

theorem requested_iff {p : Config.Params} {m : Byte} {k : Chan} :
    requested p m k = true ↔ k.val < p.nCh ∧ m.getLsbD k.val = true := by simp [requested, and_comm]

/-- `channelOf` inverts `adcAddress` on the channels of the build (R83). -/
theorem channelOf_some_iff {p : Config.Params} {a : Byte} {k : Chan} :
    channelOf p a = some k ↔ k.val < p.nCh ∧ a = adcAddress k := by
  rw [channelOf, find_channels_some]
  simp only [Bool.and_eq_true, decide_eq_true_eq, Bool.and_eq_false_iff, decide_eq_false_iff_not]
  constructor
  · exact fun h => h.1
  · intro h
    refine ⟨h, fun j hj => .inr ?_⟩
    rw [h.2]
    have : ∀ j k : Chan, j < k → adcAddress k ≠ adcAddress j := by decide
    exact this j k hj

/-- Read after write of the value table (R32): a slot the build has holds the value written, every other slot is as it was. -/
theorem writeValue_value (p : Config.Params) (r : AdcRegs) (k j : Chan) (v : Sample) :
    (r.writeValue p k v).value[j] = if j = k ∧ k.val < p.nCh then v else r.value[j] := by
  unfold AdcRegs.writeValue
  by_cases hk : k.val < p.nCh <;> by_cases hj : j = k
  · subst hj; simp [hk]
  · have hne : k.val ≠ j.val := fun e => hj (Fin.ext e.symm)
    simp [hk, hj, hne]
  · simp [hk]
  · simp [hk]

@[simp] theorem writeValue_channelMask (p : Config.Params) (r : AdcRegs) (k : Chan) (v : Sample) :
    (r.writeValue p k v).channelMask = r.channelMask := by unfold AdcRegs.writeValue; split <;> rfl
@[simp] theorem writeValue_currentChannel (p : Config.Params) (r : AdcRegs) (k : Chan) (v : Sample) :
    (r.writeValue p k v).currentChannel = r.currentChannel := by unfold AdcRegs.writeValue; split <;> rfl
@[simp] theorem writeValue_complete (p : Config.Params) (r : AdcRegs) (k : Chan) (v : Sample) :
    (r.writeValue p k v).complete = r.complete := by unfold AdcRegs.writeValue; split <;> rfl
@[simp] theorem writeValue_enabled (p : Config.Params) (r : AdcRegs) (k : Chan) (v : Sample) :
    (r.writeValue p k v).enabled = r.enabled := by unfold AdcRegs.writeValue; split <;> rfl

/-- What zeroing leaves in a slot (R124). -/
theorem zeroUnrequested_get (p : Config.Params) (m : Byte) (v : Vector Sample 8) (k : Chan) :
    (zeroUnrequested p m v)[k] = if k.val < p.nCh ∧ m.getLsbD k.val = false then 0 else v[k] := by
  simp [zeroUnrequested]

/-! ## The register file as the bus sees it -/

theorem classify_setmask (p : Config.Params) (r : AdcRegs) : classify p r 0x01 = (0, 0) := rfl
theorem classify_getmask (p : Config.Params) (r : AdcRegs) : classify p r 0x02 = (r.channelMask, 0) := rfl
theorem classify_auxtog (p : Config.Params) (r : AdcRegs) : classify p r 0x03 = (0, 0) := rfl
theorem classify_getver (p : Config.Params) (r : AdcRegs) : classify p r 0x04 = (p.majorVersion, p.minorVersion) := rfl
theorem classify_bootld (p : Config.Params) (r : AdcRegs) : classify p r 0x05 = (0, 0) := rfl
theorem classify_gethw (p : Config.Params) (r : AdcRegs) : classify p r 0x06 = (p.hwVariant, 0) := rfl

/-- The address of a channel the build has answers the slot, low byte first (R150). -/
theorem classify_getadc (p : Config.Params) (r : AdcRegs) (k : Chan) (h : k.val < p.nCh) :
    classify p r (adcAddress k) = (lowByte r.value[k], highByte r.value[k]) := by
  have hne : ∀ k : Chan, adcAddress k ≠ 1 ∧ adcAddress k ≠ 2 ∧ adcAddress k ≠ 3 ∧ adcAddress k ≠ 4 ∧
      adcAddress k ≠ 5 ∧ adcAddress k ≠ 6 := by decide
  obtain ⟨h1, h2, h3, h4, h5, h6⟩ := hne k
  rw [classify, if_neg h1, if_neg h2, if_neg h3, if_neg h4, if_neg h5, if_neg h6, channelOf_some_iff.2 ⟨h, rfl⟩]

/-- An address that is neither a command's nor a present channel's answers 0, 0 (R152). -/
theorem classify_reserved (p : Config.Params) (r : AdcRegs) (a : Byte) (h2 : a ≠ 2) (h4 : a ≠ 4) (h6 : a ≠ 6)
    (h : channelOf p a = none) : classify p r a = (0, 0) := by
  rw [classify, if_neg h2, if_neg h4, if_neg h6, h]
  split_ifs <;> rfl

/-- A bus read depends on the mask only at address 0x02 (R61). -/
theorem classify_writeMask (p : Config.Params) (r : AdcRegs) (a v : Byte) (h : a ≠ 0x02) :
    classify p (r.writeMask v) a = classify p r a := by
  simp only [classify, h, if_false]
  rfl

/-- The second response byte never depends on the mask (R144). -/
theorem classify_snd_writeMask (p : Config.Params) (r : AdcRegs) (a v : Byte) :
    (classify p (r.writeMask v) a).2 = (classify p r a).2 := by
  by_cases h : a = 0x02
  · subst h; rfl
  · rw [classify_writeMask p r a v h]

/-! ## Waking -/

@[simp] theorem wakeLight_idem (r : PowerRegs) : r.wakeLight.wakeLight = r.wakeLight := by
  unfold PowerRegs.wakeLight
  cases r.fgPhase <;> simp

/-- An event that ends a light sleep leaves a foreground that does not sleep lightly alone (R217). -/
theorem wakeLight_of_ne (r : PowerRegs) (h : r.fgPhase ≠ .lightSleep) : r.wakeLight = r := by
  simp [PowerRegs.wakeLight, h]

end Sys2Proof.Machine
end

