-- ==== Sys2Proof/Laws/Adc.lean ====
section
/-! SUPPORT. Laws/Adc.lean: what the searches and the sequencer's part of a pass can do (spec/41_adc_sequencer.md). -/

namespace Sys2Proof.Machine

/-! ## The searches -/

theorem firstChannel_requested {p : Config.Params} {m : Byte} {k : Chan} (h : firstChannel p m = some k) :
    requested p m k = true := ((find_channels_some _ k).1 h).1

theorem firstChannel_none_iff {p : Config.Params} {m : Byte} :
    firstChannel p m = none ↔ ∀ j : Chan, requested p m j = false := find_channels_none _

/-- The successor is a requested channel, or there is none because nothing is requested (R122). -/
theorem nextChannel_requested {p : Config.Params} {m : Byte} {c k : Chan} (h : nextChannel p m c = some k) :
    requested p m k = true := by
  unfold nextChannel at h
  split at h
  · next j hj =>
    cases h
    have := ((find_channels_some _ k).1 hj).1
    simp only [Bool.and_eq_true] at this
    exact this.2
  · exact firstChannel_requested h

/-! ## The selection of a channel -/

@[simp] theorem State.select_cfg (s : State) (found : Option Chan) : (s.select found).cfg = s.cfg := by cases found <;> rfl
@[simp] theorem State.select_debounce (s : State) (found : Option Chan) : (s.select found).debounce = s.debounce := by cases found <;> rfl
@[simp] theorem State.select_timers (s : State) (found : Option Chan) : (s.select found).timers = s.timers := by cases found <;> rfl
@[simp] theorem State.select_power (s : State) (found : Option Chan) : (s.select found).power = s.power := by cases found <;> rfl
@[simp] theorem State.select_spi (s : State) (found : Option Chan) : (s.select found).spi = s.spi := by cases found <;> rfl
@[simp] theorem State.select_schedule (s : State) (found : Option Chan) : (s.select found).schedule = s.schedule := by cases found <;> rfl
@[simp] theorem State.select_history (s : State) (found : Option Chan) : (s.select found).history = s.history := by cases found <;> rfl
@[simp] theorem State.select_sinceKick (s : State) (found : Option Chan) : (s.select found).sinceKick = s.sinceKick := by cases found <;> rfl
@[simp] theorem State.select_adc (s : State) (found : Option Chan) :
    (s.select found).adc = { s.adc with currentChannel := found } := by cases found <;> rfl

/-- A selection puts out one start pulse when it found a channel, and nothing otherwise (R129). -/
theorem State.select_outputs (s : State) (found : Option Chan) :
    (s.select found).outputs = s.outputs ++ (found.toList.map Output.adcStart) := by
  cases found <;> simp [State.select]

/-! ## The pass -/

/-- What a pass of the sequencer can be (R126): nothing, a completion, or a zeroing that starts a conversion if idle. -/
theorem State.adcPass_cases (s : State) :
    (s.adc.enabled = false ∧ s.adcPass = s) ∨
    (s.adc.enabled = true ∧ s.adc.complete = true ∧
      s.adcPass = ({ s with adc := { s.adc with complete := false } }).select s.successor) ∨
    (s.adc.enabled = true ∧ s.adc.complete = false ∧ s.adc.currentChannel ≠ none ∧ s.adcPass = s.adcZero) ∨
    (s.adc.enabled = true ∧ s.adc.complete = false ∧ s.adc.currentChannel = none ∧
      s.adcPass = s.adcZero.select (firstChannel s.cfg s.adc.channelMask)) := by
  unfold State.adcPass
  cases he : s.adc.enabled
  · exact .inl ⟨rfl, rfl⟩
  · cases hc : s.adc.complete
    · cases hk : s.adc.currentChannel
      · refine .inr (.inr (.inr ⟨rfl, rfl, rfl, ?_⟩))
        simp [State.adcStartIfIdle, hk]
      · refine .inr (.inr (.inl ⟨rfl, rfl, by simp, ?_⟩))
        simp [State.adcStartIfIdle, hk]
    · exact .inr (.inl ⟨rfl, rfl, rfl⟩)

@[simp] theorem State.adcPass_cfg (s : State) : s.adcPass.cfg = s.cfg := by
  rcases s.adcPass_cases with ⟨_, h⟩ | ⟨_, _, h⟩ | ⟨_, _, _, h⟩ | ⟨_, _, _, h⟩ <;> simp [h]
@[simp] theorem State.adcPass_debounce (s : State) : s.adcPass.debounce = s.debounce := by
  rcases s.adcPass_cases with ⟨_, h⟩ | ⟨_, _, h⟩ | ⟨_, _, _, h⟩ | ⟨_, _, _, h⟩ <;> simp [h]
@[simp] theorem State.adcPass_timers (s : State) : s.adcPass.timers = s.timers := by
  rcases s.adcPass_cases with ⟨_, h⟩ | ⟨_, _, h⟩ | ⟨_, _, _, h⟩ | ⟨_, _, _, h⟩ <;> simp [h]
@[simp] theorem State.adcPass_power (s : State) : s.adcPass.power = s.power := by
  rcases s.adcPass_cases with ⟨_, h⟩ | ⟨_, _, h⟩ | ⟨_, _, _, h⟩ | ⟨_, _, _, h⟩ <;> simp [h]
@[simp] theorem State.adcPass_spi (s : State) : s.adcPass.spi = s.spi := by
  rcases s.adcPass_cases with ⟨_, h⟩ | ⟨_, _, h⟩ | ⟨_, _, _, h⟩ | ⟨_, _, _, h⟩ <;> simp [h]
@[simp] theorem State.adcPass_schedule (s : State) : s.adcPass.schedule = s.schedule := by
  rcases s.adcPass_cases with ⟨_, h⟩ | ⟨_, _, h⟩ | ⟨_, _, _, h⟩ | ⟨_, _, _, h⟩ <;> simp [h]
@[simp] theorem State.adcPass_history (s : State) : s.adcPass.history = s.history := by
  rcases s.adcPass_cases with ⟨_, h⟩ | ⟨_, _, h⟩ | ⟨_, _, _, h⟩ | ⟨_, _, _, h⟩ <;> simp [h]
@[simp] theorem State.adcPass_sinceKick (s : State) : s.adcPass.sinceKick = s.sinceKick := by
  rcases s.adcPass_cases with ⟨_, h⟩ | ⟨_, _, h⟩ | ⟨_, _, _, h⟩ | ⟨_, _, _, h⟩ <;> simp [h]
@[simp] theorem State.adcPass_channelMask (s : State) : s.adcPass.adc.channelMask = s.adc.channelMask := by
  rcases s.adcPass_cases with ⟨_, h⟩ | ⟨_, _, h⟩ | ⟨_, _, _, h⟩ | ⟨_, _, _, h⟩ <;> simp [h]
@[simp] theorem State.adcPass_enabled (s : State) : s.adcPass.adc.enabled = s.adc.enabled := by
  rcases s.adcPass_cases with ⟨_, h⟩ | ⟨_, _, h⟩ | ⟨_, _, _, h⟩ | ⟨_, _, _, h⟩ <;> simp [h]

/-- A pass of an enabled sequencer leaves no completion pending (R123, R34). -/
theorem State.adcPass_complete (s : State) (h : s.adc.enabled = true) : s.adcPass.adc.complete = false := by
  rcases s.adcPass_cases with ⟨h1, _⟩ | ⟨_, _, h2⟩ | ⟨_, h1, _, h2⟩ | ⟨_, h1, _, h2⟩
  · simp [h] at h1
  · simp [h2]
  · simp [h2, h1]
  · simp [h2, h1]

/-! ## ADC_DONE -/

/-- What the store of a result leaves in a slot: the result in the slot in flight, everything else as it was (R120). -/
theorem AdcRegs.store_value (p : Config.Params) (r : AdcRegs) (v : Sample) (j : Chan) :
    (r.store p v).value[j] = if r.currentChannel = some j ∧ j.val < p.nCh then v else r.value[j] := by
  unfold AdcRegs.store
  cases hk : r.currentChannel with
  | none => simp
  | some k =>
    simp only [writeValue_value, Option.some.injEq]
    by_cases hj : j = k
    · subst hj; simp
    · simp [hj, Ne.symm hj]

@[simp] theorem AdcRegs.store_channelMask (p : Config.Params) (r : AdcRegs) (v : Sample) : (r.store p v).channelMask = r.channelMask := by
  unfold AdcRegs.store; split <;> simp
@[simp] theorem AdcRegs.store_currentChannel (p : Config.Params) (r : AdcRegs) (v : Sample) : (r.store p v).currentChannel = r.currentChannel := by
  unfold AdcRegs.store; split <;> simp
@[simp] theorem AdcRegs.store_complete (p : Config.Params) (r : AdcRegs) (v : Sample) : (r.store p v).complete = r.complete := by
  unfold AdcRegs.store; split <;> simp
@[simp] theorem AdcRegs.store_enabled (p : Config.Params) (r : AdcRegs) (v : Sample) : (r.store p v).enabled = r.enabled := by
  unfold AdcRegs.store; split <;> simp

end Sys2Proof.Machine
end

