-- ==== Sys2Proof/Laws/Decode.lean ====
section
/-! SUPPORT. Laws/Decode.lean: small lemmas of the decoder and the encoder (spec/30_encoding.md R80 to R85). -/

namespace Sys2Proof

@[simp] theorem encode_length (i : Instr) : (encode i).length = 3 := rfl

/-- A complete transaction is never refused (R84). -/
theorem decode_three (a d p : Byte) (rest : List Byte) : decode (a :: d :: p :: rest) = .ok (decodeXfer a d p, rest) := rfl

/-- The decoder reads the wire bytes of a 24-bit word (R81). -/
theorem decodeTableWord_24 (w : Nat) :
    decodeTableWord 24 w =
      some (decodeXfer (BitVec.ofNat 8 (w % 2 ^ 24 / 65536)) (BitVec.ofNat 8 (w % 2 ^ 24 / 256)) (BitVec.ofNat 8 (w % 2 ^ 24))) :=
  rfl

end Sys2Proof
end

