-- ==== Sys2Proof/Laws/Spi.lean ====
section
/-! SUPPORT. Laws/Spi.lean: what the responder can do with a byte and in a pass (spec/42_spi_responder.md). -/

namespace Sys2Proof.Machine

/-! ## The deferred effects of a pass -/

@[simp] theorem SpiRegs.performToggle_phase (r : SpiRegs) : r.performToggle.phase = r.phase := by
  unfold SpiRegs.performToggle; split <;> rfl
@[simp] theorem SpiRegs.performToggle_addr (r : SpiRegs) : r.performToggle.addr = r.addr := by
  unfold SpiRegs.performToggle; split <;> rfl
@[simp] theorem SpiRegs.performToggle_pending (r : SpiRegs) : r.performToggle.pending = r.pending := by
  unfold SpiRegs.performToggle; split <;> rfl
@[simp] theorem SpiRegs.performToggle_tx (r : SpiRegs) : r.performToggle.tx = r.tx := by
  unfold SpiRegs.performToggle; split <;> rfl
@[simp] theorem SpiRegs.performToggle_xferFlag (r : SpiRegs) : r.performToggle.xferFlag = r.xferFlag := by
  unfold SpiRegs.performToggle; split <;> rfl
@[simp] theorem SpiRegs.performToggle_auxToggleReq (r : SpiRegs) : r.performToggle.auxToggleReq = false := by
  unfold SpiRegs.performToggle; cases h : r.auxToggleReq <;> simp [h]
@[simp] theorem SpiRegs.performToggle_bootReq (r : SpiRegs) : r.performToggle.bootReq = r.bootReq := by
  unfold SpiRegs.performToggle; split <;> rfl
@[simp] theorem SpiRegs.performToggle_halted (r : SpiRegs) : r.performToggle.halted = r.halted := by
  unfold SpiRegs.performToggle; split <;> rfl
@[simp] theorem SpiRegs.performToggle_enabled (r : SpiRegs) : r.performToggle.enabled = r.enabled := by
  unfold SpiRegs.performToggle; split <;> rfl
@[simp] theorem SpiRegs.performToggle_auxDir (r : SpiRegs) : r.performToggle.auxDir = (if r.auxToggleReq then !r.auxDir else r.auxDir) := by
  unfold SpiRegs.performToggle; cases r.auxToggleReq <;> simp
@[simp] theorem SpiRegs.performBoot_phase (r : SpiRegs) : r.performBoot.phase = r.phase := by
  unfold SpiRegs.performBoot; split <;> rfl
@[simp] theorem SpiRegs.performBoot_addr (r : SpiRegs) : r.performBoot.addr = r.addr := by
  unfold SpiRegs.performBoot; split <;> rfl
@[simp] theorem SpiRegs.performBoot_pending (r : SpiRegs) : r.performBoot.pending = r.pending := by
  unfold SpiRegs.performBoot; split <;> rfl
@[simp] theorem SpiRegs.performBoot_tx (r : SpiRegs) : r.performBoot.tx = r.tx := by
  unfold SpiRegs.performBoot; split <;> rfl
@[simp] theorem SpiRegs.performBoot_xferFlag (r : SpiRegs) : r.performBoot.xferFlag = r.xferFlag := by
  unfold SpiRegs.performBoot; split <;> rfl
@[simp] theorem SpiRegs.performBoot_auxToggleReq (r : SpiRegs) : r.performBoot.auxToggleReq = r.auxToggleReq := by
  unfold SpiRegs.performBoot; split <;> rfl
@[simp] theorem SpiRegs.performBoot_bootReq (r : SpiRegs) : r.performBoot.bootReq = r.bootReq := by
  unfold SpiRegs.performBoot; split <;> rfl
@[simp] theorem SpiRegs.performBoot_halted (r : SpiRegs) : r.performBoot.halted = (r.bootReq || r.halted) := by
  unfold SpiRegs.performBoot; cases h : r.bootReq <;> simp
@[simp] theorem SpiRegs.performBoot_enabled (r : SpiRegs) : r.performBoot.enabled = r.enabled := by
  unfold SpiRegs.performBoot; split <;> rfl
@[simp] theorem SpiRegs.performBoot_auxDir (r : SpiRegs) : r.performBoot.auxDir = r.auxDir := by
  unfold SpiRegs.performBoot; split <;> rfl
@[simp] theorem SpiRegs.consumeTransfer_phase (r : SpiRegs) : r.consumeTransfer.phase = r.phase := rfl
@[simp] theorem SpiRegs.consumeTransfer_addr (r : SpiRegs) : r.consumeTransfer.addr = r.addr := rfl
@[simp] theorem SpiRegs.consumeTransfer_pending (r : SpiRegs) : r.consumeTransfer.pending = r.pending := rfl
@[simp] theorem SpiRegs.consumeTransfer_tx (r : SpiRegs) : r.consumeTransfer.tx = r.tx := rfl
@[simp] theorem SpiRegs.consumeTransfer_xferFlag (r : SpiRegs) : r.consumeTransfer.xferFlag = false := rfl
@[simp] theorem SpiRegs.consumeTransfer_auxToggleReq (r : SpiRegs) : r.consumeTransfer.auxToggleReq = r.auxToggleReq := rfl
@[simp] theorem SpiRegs.consumeTransfer_bootReq (r : SpiRegs) : r.consumeTransfer.bootReq = r.bootReq := rfl
@[simp] theorem SpiRegs.consumeTransfer_halted (r : SpiRegs) : r.consumeTransfer.halted = r.halted := rfl
@[simp] theorem SpiRegs.consumeTransfer_enabled (r : SpiRegs) : r.consumeTransfer.enabled = r.enabled := rfl
@[simp] theorem SpiRegs.consumeTransfer_auxDir (r : SpiRegs) : r.consumeTransfer.auxDir = r.auxDir := rfl

/-! ## A byte -/

/-- Where an address is expected a byte is wire byte 1, in the value 3 of the counter too (R91, R141). -/
theorem onByteReceived_address (p : Config.Params) (r : AdcRegs) (t : TransactionState) (rx : Byte)
    (h : t.phase = .expectAddress ∨ t.phase = .reserved3) : onByteReceived p r t rx = onAddress p r rx := by
  unfold onByteReceived
  rcases h with h | h <;> rw [h]

theorem onByteReceived_byte2 (p : Config.Params) (r : AdcRegs) (t : TransactionState) (rx : Byte)
    (h : t.phase = .expectByte2) : onByteReceived p r t rx = onByte2 t rx := by
  unfold onByteReceived; rw [h]

theorem onByteReceived_byte3 (p : Config.Params) (r : AdcRegs) (t : TransactionState) (rx : Byte)
    (h : t.phase = .expectByte3) : onByteReceived p r t rx = onByte3 t := by
  unfold onByteReceived; rw [h]

/-- The progress counter moves one place for every byte and never takes the value 3 (R36, R91). -/
theorem onByteReceived_phase (p : Config.Params) (r : AdcRegs) (t : TransactionState) (rx : Byte) :
    (onByteReceived p r t rx).state.phase =
      match t.phase with
      | .expectAddress => .expectByte2
      | .reserved3 => .expectByte2
      | .expectByte2 => .expectByte3
      | .expectByte3 => .expectAddress := by
  unfold onByteReceived
  cases t.phase <;> rfl

/-- What a side effect writes: the mask, a request flag, or nothing (R155). -/
theorem State.perform_cases (s : State) (e : SideEffect) :
    (e = .none ∧ s.perform e = s) ∨
    (∃ d, e = .writeMask d ∧ s.perform e = { s with adc := { s.adc with channelMask := d } }) ∨
    (e = .requestToggle ∧ s.perform e = { s with spi := { s.spi with auxToggleReq := true } }) ∨
    (e = .requestBoot ∧ s.perform e = { s with spi := { s.spi with bootReq := true } }) := by
  cases e with
  | none => exact .inl ⟨rfl, rfl⟩
  | writeMask d => exact .inr (.inl ⟨d, rfl, rfl⟩)
  | requestToggle => exact .inr (.inr (.inl ⟨rfl, rfl⟩))
  | requestBoot => exact .inr (.inr (.inr ⟨rfl, rfl⟩))

@[simp] theorem State.perform_cfg (s : State) (e : SideEffect) : (s.perform e).cfg = s.cfg := by cases e <;> rfl
@[simp] theorem State.perform_debounce (s : State) (e : SideEffect) : (s.perform e).debounce = s.debounce := by cases e <;> rfl
@[simp] theorem State.perform_timers (s : State) (e : SideEffect) : (s.perform e).timers = s.timers := by cases e <;> rfl
@[simp] theorem State.perform_power (s : State) (e : SideEffect) : (s.perform e).power = s.power := by cases e <;> rfl
@[simp] theorem State.perform_schedule (s : State) (e : SideEffect) : (s.perform e).schedule = s.schedule := by cases e <;> rfl
@[simp] theorem State.perform_history (s : State) (e : SideEffect) : (s.perform e).history = s.history := by cases e <;> rfl
@[simp] theorem State.perform_sinceKick (s : State) (e : SideEffect) : (s.perform e).sinceKick = s.sinceKick := by cases e <;> rfl
@[simp] theorem State.perform_outputs (s : State) (e : SideEffect) : (s.perform e).outputs = s.outputs := by cases e <;> rfl
@[simp] theorem State.perform_adc_value (s : State) (e : SideEffect) : (s.perform e).adc.value = s.adc.value := by cases e <;> rfl
@[simp] theorem State.perform_adc_currentChannel (s : State) (e : SideEffect) : (s.perform e).adc.currentChannel = s.adc.currentChannel := by cases e <;> rfl
@[simp] theorem State.perform_adc_complete (s : State) (e : SideEffect) : (s.perform e).adc.complete = s.adc.complete := by cases e <;> rfl
@[simp] theorem State.perform_adc_enabled (s : State) (e : SideEffect) : (s.perform e).adc.enabled = s.adc.enabled := by cases e <;> rfl
@[simp] theorem State.perform_spi_phase (s : State) (e : SideEffect) : (s.perform e).spi.phase = s.spi.phase := by cases e <;> rfl
@[simp] theorem State.perform_spi_addr (s : State) (e : SideEffect) : (s.perform e).spi.addr = s.spi.addr := by cases e <;> rfl
@[simp] theorem State.perform_spi_pending (s : State) (e : SideEffect) : (s.perform e).spi.pending = s.spi.pending := by cases e <;> rfl
@[simp] theorem State.perform_spi_tx (s : State) (e : SideEffect) : (s.perform e).spi.tx = s.spi.tx := by cases e <;> rfl
@[simp] theorem State.perform_spi_xferFlag (s : State) (e : SideEffect) : (s.perform e).spi.xferFlag = s.spi.xferFlag := by cases e <;> rfl
@[simp] theorem State.perform_spi_halted (s : State) (e : SideEffect) : (s.perform e).spi.halted = s.spi.halted := by cases e <;> rfl
@[simp] theorem State.perform_spi_enabled (s : State) (e : SideEffect) : (s.perform e).spi.enabled = s.spi.enabled := by cases e <;> rfl
@[simp] theorem State.perform_spi_auxDir (s : State) (e : SideEffect) : (s.perform e).spi.auxDir = s.spi.auxDir := by cases e <;> rfl

/-! ## SPI_BYTE -/

@[simp] theorem State.transfer_cfg (s : State) (cs : Bool) (rx : Byte) : (s.transfer cs rx).cfg = s.cfg := by
  cases cs <;> simp [State.transfer, State.receive]
@[simp] theorem State.transfer_debounce (s : State) (cs : Bool) (rx : Byte) : (s.transfer cs rx).debounce = s.debounce := by
  cases cs <;> simp [State.transfer, State.receive]
@[simp] theorem State.transfer_timers (s : State) (cs : Bool) (rx : Byte) : (s.transfer cs rx).timers = s.timers := by
  cases cs <;> simp [State.transfer, State.receive]
@[simp] theorem State.transfer_power (s : State) (cs : Bool) (rx : Byte) : (s.transfer cs rx).power = s.power.wakeLight := by
  cases cs <;> simp [State.transfer, State.receive]
@[simp] theorem State.transfer_schedule (s : State) (cs : Bool) (rx : Byte) : (s.transfer cs rx).schedule = s.schedule := by
  cases cs <;> simp [State.transfer, State.receive]
@[simp] theorem State.transfer_history (s : State) (cs : Bool) (rx : Byte) : (s.transfer cs rx).history = s.history := by
  cases cs <;> simp [State.transfer, State.receive]
@[simp] theorem State.transfer_sinceKick (s : State) (cs : Bool) (rx : Byte) : (s.transfer cs rx).sinceKick = s.sinceKick := by
  cases cs <;> simp [State.transfer, State.receive]
@[simp] theorem State.transfer_outputs (s : State) (cs : Bool) (rx : Byte) : (s.transfer cs rx).outputs = s.outputs ++ [Output.miso (s.misoByte cs)] := by
  cases cs <;> simp [State.transfer, State.receive]
@[simp] theorem State.transfer_adc_value (s : State) (cs : Bool) (rx : Byte) :
    (s.transfer cs rx).adc.value = s.adc.value := by
  cases cs <;> simp [State.transfer, State.receive]
@[simp] theorem State.transfer_adc_currentChannel (s : State) (cs : Bool) (rx : Byte) :
    (s.transfer cs rx).adc.currentChannel = s.adc.currentChannel := by
  cases cs <;> simp [State.transfer, State.receive]
@[simp] theorem State.transfer_adc_complete (s : State) (cs : Bool) (rx : Byte) :
    (s.transfer cs rx).adc.complete = s.adc.complete := by
  cases cs <;> simp [State.transfer, State.receive]
@[simp] theorem State.transfer_adc_enabled (s : State) (cs : Bool) (rx : Byte) :
    (s.transfer cs rx).adc.enabled = s.adc.enabled := by
  cases cs <;> simp [State.transfer, State.receive]
@[simp] theorem State.transfer_spi_halted (s : State) (cs : Bool) (rx : Byte) :
    (s.transfer cs rx).spi.halted = s.spi.halted := by
  cases cs <;> simp [State.transfer, State.receive, SpiRegs.load, SpiRegs.signalTransfer]
@[simp] theorem State.transfer_spi_enabled (s : State) (cs : Bool) (rx : Byte) :
    (s.transfer cs rx).spi.enabled = s.spi.enabled := by
  cases cs <;> simp [State.transfer, State.receive, SpiRegs.load, SpiRegs.signalTransfer]
@[simp] theorem State.transfer_spi_auxDir (s : State) (cs : Bool) (rx : Byte) :
    (s.transfer cs rx).spi.auxDir = s.spi.auxDir := by
  cases cs <;> simp [State.transfer, State.receive, SpiRegs.load, SpiRegs.signalTransfer]

/-- A byte with the gate not asserted changes nothing of the transaction (R153). -/
theorem State.transfer_unaddressed (s : State) (rx : Byte) :
    s.transfer false rx =
      { s with
        power := s.power.wakeLight
        spi := { s.spi with xferFlag := true }
        outputs := s.outputs ++ [.miso .hiZ] } := rfl

/-- What an addressed byte leaves in the responder, by what the pure function answers (R155). -/
theorem State.transfer_addressed (s : State) (rx : Byte) :
    s.transfer true rx =
      (({ s with
          spi := s.spi.signalTransfer.load (onByteReceived s.cfg s.adc s.spi.transaction rx)
          outputs := s.outputs ++ [Output.miso (.driven s.spi.tx)] }).perform
            (onByteReceived s.cfg s.adc s.spi.transaction rx).effect).wakeLight := rfl

end Sys2Proof.Machine
end

