-- ==== Sys2Proof/Laws/Power.lean ====
section
/-! SUPPORT. Laws/Power.lean: what a dispatch and a pass can do (spec/43_power_fsm.md). -/

namespace Sys2Proof.Machine

/-! ## What no dispatch writes -/

@[simp] theorem dispatch_cfg (s : State) : (dispatch s).cfg = s.cfg := by
  unfold dispatch
  cases s.power.current <;>
    simp only [dispatchStart, dispatchWaitEntry, dispatchWait, dispatchButtonPress, dispatchButtonRelease,
      dispatchSignaledOnEntry, dispatchSignaledOn, dispatchMcuRunningEntry, dispatchMcuRunning, dispatchIdleEntry,
      dispatchAdcNoiseEntry, dispatchAdcNoiseExit, dispatchSignaledOffEntry, dispatchSignaledOff, dispatchMcuOffEntry,
      dispatchMcuOff, dispatchPowerDownEntry, dispatchPowerDownExit, dispatchUndefined] <;>
    (repeat' split) <;> rfl
@[simp] theorem dispatch_debounce (s : State) : (dispatch s).debounce = s.debounce := by
  unfold dispatch
  cases s.power.current <;>
    simp only [dispatchStart, dispatchWaitEntry, dispatchWait, dispatchButtonPress, dispatchButtonRelease,
      dispatchSignaledOnEntry, dispatchSignaledOn, dispatchMcuRunningEntry, dispatchMcuRunning, dispatchIdleEntry,
      dispatchAdcNoiseEntry, dispatchAdcNoiseExit, dispatchSignaledOffEntry, dispatchSignaledOff, dispatchMcuOffEntry,
      dispatchMcuOff, dispatchPowerDownEntry, dispatchPowerDownExit, dispatchUndefined] <;>
    (repeat' split) <;> rfl
@[simp] theorem dispatch_schedule (s : State) : (dispatch s).schedule = s.schedule := by
  unfold dispatch
  cases s.power.current <;>
    simp only [dispatchStart, dispatchWaitEntry, dispatchWait, dispatchButtonPress, dispatchButtonRelease,
      dispatchSignaledOnEntry, dispatchSignaledOn, dispatchMcuRunningEntry, dispatchMcuRunning, dispatchIdleEntry,
      dispatchAdcNoiseEntry, dispatchAdcNoiseExit, dispatchSignaledOffEntry, dispatchSignaledOff, dispatchMcuOffEntry,
      dispatchMcuOff, dispatchPowerDownEntry, dispatchPowerDownExit, dispatchUndefined] <;>
    (repeat' split) <;> rfl
@[simp] theorem dispatch_history (s : State) : (dispatch s).history = s.history := by
  unfold dispatch
  cases s.power.current <;>
    simp only [dispatchStart, dispatchWaitEntry, dispatchWait, dispatchButtonPress, dispatchButtonRelease,
      dispatchSignaledOnEntry, dispatchSignaledOn, dispatchMcuRunningEntry, dispatchMcuRunning, dispatchIdleEntry,
      dispatchAdcNoiseEntry, dispatchAdcNoiseExit, dispatchSignaledOffEntry, dispatchSignaledOff, dispatchMcuOffEntry,
      dispatchMcuOff, dispatchPowerDownEntry, dispatchPowerDownExit, dispatchUndefined] <;>
    (repeat' split) <;> rfl
@[simp] theorem dispatch_sinceKick (s : State) : (dispatch s).sinceKick = s.sinceKick := by
  unfold dispatch
  cases s.power.current <;>
    simp only [dispatchStart, dispatchWaitEntry, dispatchWait, dispatchButtonPress, dispatchButtonRelease,
      dispatchSignaledOnEntry, dispatchSignaledOn, dispatchMcuRunningEntry, dispatchMcuRunning, dispatchIdleEntry,
      dispatchAdcNoiseEntry, dispatchAdcNoiseExit, dispatchSignaledOffEntry, dispatchSignaledOff, dispatchMcuOffEntry,
      dispatchMcuOff, dispatchPowerDownEntry, dispatchPowerDownExit, dispatchUndefined] <;>
    (repeat' split) <;> rfl
@[simp] theorem dispatch_outputs (s : State) : (dispatch s).outputs = s.outputs := by
  unfold dispatch
  cases s.power.current <;>
    simp only [dispatchStart, dispatchWaitEntry, dispatchWait, dispatchButtonPress, dispatchButtonRelease,
      dispatchSignaledOnEntry, dispatchSignaledOn, dispatchMcuRunningEntry, dispatchMcuRunning, dispatchIdleEntry,
      dispatchAdcNoiseEntry, dispatchAdcNoiseExit, dispatchSignaledOffEntry, dispatchSignaledOff, dispatchMcuOffEntry,
      dispatchMcuOff, dispatchPowerDownEntry, dispatchPowerDownExit, dispatchUndefined] <;>
    (repeat' split) <;> rfl
@[simp] theorem dispatch_adc_channelMask (s : State) : (dispatch s).adc.channelMask = s.adc.channelMask := by
  unfold dispatch
  cases s.power.current <;>
    simp only [dispatchStart, dispatchWaitEntry, dispatchWait, dispatchButtonPress, dispatchButtonRelease,
      dispatchSignaledOnEntry, dispatchSignaledOn, dispatchMcuRunningEntry, dispatchMcuRunning, dispatchIdleEntry,
      dispatchAdcNoiseEntry, dispatchAdcNoiseExit, dispatchSignaledOffEntry, dispatchSignaledOff, dispatchMcuOffEntry,
      dispatchMcuOff, dispatchPowerDownEntry, dispatchPowerDownExit, dispatchUndefined] <;>
    (repeat' split) <;> rfl
@[simp] theorem dispatch_adc_value (s : State) : (dispatch s).adc.value = s.adc.value := by
  unfold dispatch
  cases s.power.current <;>
    simp only [dispatchStart, dispatchWaitEntry, dispatchWait, dispatchButtonPress, dispatchButtonRelease,
      dispatchSignaledOnEntry, dispatchSignaledOn, dispatchMcuRunningEntry, dispatchMcuRunning, dispatchIdleEntry,
      dispatchAdcNoiseEntry, dispatchAdcNoiseExit, dispatchSignaledOffEntry, dispatchSignaledOff, dispatchMcuOffEntry,
      dispatchMcuOff, dispatchPowerDownEntry, dispatchPowerDownExit, dispatchUndefined] <;>
    (repeat' split) <;> rfl
@[simp] theorem dispatch_spi_addr (s : State) : (dispatch s).spi.addr = s.spi.addr := by
  unfold dispatch
  cases s.power.current <;>
    simp only [dispatchStart, dispatchWaitEntry, dispatchWait, dispatchButtonPress, dispatchButtonRelease,
      dispatchSignaledOnEntry, dispatchSignaledOn, dispatchMcuRunningEntry, dispatchMcuRunning, dispatchIdleEntry,
      dispatchAdcNoiseEntry, dispatchAdcNoiseExit, dispatchSignaledOffEntry, dispatchSignaledOff, dispatchMcuOffEntry,
      dispatchMcuOff, dispatchPowerDownEntry, dispatchPowerDownExit, dispatchUndefined] <;>
    (repeat' split) <;> rfl
@[simp] theorem dispatch_spi_pending (s : State) : (dispatch s).spi.pending = s.spi.pending := by
  unfold dispatch
  cases s.power.current <;>
    simp only [dispatchStart, dispatchWaitEntry, dispatchWait, dispatchButtonPress, dispatchButtonRelease,
      dispatchSignaledOnEntry, dispatchSignaledOn, dispatchMcuRunningEntry, dispatchMcuRunning, dispatchIdleEntry,
      dispatchAdcNoiseEntry, dispatchAdcNoiseExit, dispatchSignaledOffEntry, dispatchSignaledOff, dispatchMcuOffEntry,
      dispatchMcuOff, dispatchPowerDownEntry, dispatchPowerDownExit, dispatchUndefined] <;>
    (repeat' split) <;> rfl
@[simp] theorem dispatch_spi_tx (s : State) : (dispatch s).spi.tx = s.spi.tx := by
  unfold dispatch
  cases s.power.current <;>
    simp only [dispatchStart, dispatchWaitEntry, dispatchWait, dispatchButtonPress, dispatchButtonRelease,
      dispatchSignaledOnEntry, dispatchSignaledOn, dispatchMcuRunningEntry, dispatchMcuRunning, dispatchIdleEntry,
      dispatchAdcNoiseEntry, dispatchAdcNoiseExit, dispatchSignaledOffEntry, dispatchSignaledOff, dispatchMcuOffEntry,
      dispatchMcuOff, dispatchPowerDownEntry, dispatchPowerDownExit, dispatchUndefined] <;>
    (repeat' split) <;> rfl
@[simp] theorem dispatch_spi_xferFlag (s : State) : (dispatch s).spi.xferFlag = s.spi.xferFlag := by
  unfold dispatch
  cases s.power.current <;>
    simp only [dispatchStart, dispatchWaitEntry, dispatchWait, dispatchButtonPress, dispatchButtonRelease,
      dispatchSignaledOnEntry, dispatchSignaledOn, dispatchMcuRunningEntry, dispatchMcuRunning, dispatchIdleEntry,
      dispatchAdcNoiseEntry, dispatchAdcNoiseExit, dispatchSignaledOffEntry, dispatchSignaledOff, dispatchMcuOffEntry,
      dispatchMcuOff, dispatchPowerDownEntry, dispatchPowerDownExit, dispatchUndefined] <;>
    (repeat' split) <;> rfl
@[simp] theorem dispatch_spi_auxToggleReq (s : State) : (dispatch s).spi.auxToggleReq = s.spi.auxToggleReq := by
  unfold dispatch
  cases s.power.current <;>
    simp only [dispatchStart, dispatchWaitEntry, dispatchWait, dispatchButtonPress, dispatchButtonRelease,
      dispatchSignaledOnEntry, dispatchSignaledOn, dispatchMcuRunningEntry, dispatchMcuRunning, dispatchIdleEntry,
      dispatchAdcNoiseEntry, dispatchAdcNoiseExit, dispatchSignaledOffEntry, dispatchSignaledOff, dispatchMcuOffEntry,
      dispatchMcuOff, dispatchPowerDownEntry, dispatchPowerDownExit, dispatchUndefined] <;>
    (repeat' split) <;> rfl
@[simp] theorem dispatch_spi_bootReq (s : State) : (dispatch s).spi.bootReq = s.spi.bootReq := by
  unfold dispatch
  cases s.power.current <;>
    simp only [dispatchStart, dispatchWaitEntry, dispatchWait, dispatchButtonPress, dispatchButtonRelease,
      dispatchSignaledOnEntry, dispatchSignaledOn, dispatchMcuRunningEntry, dispatchMcuRunning, dispatchIdleEntry,
      dispatchAdcNoiseEntry, dispatchAdcNoiseExit, dispatchSignaledOffEntry, dispatchSignaledOff, dispatchMcuOffEntry,
      dispatchMcuOff, dispatchPowerDownEntry, dispatchPowerDownExit, dispatchUndefined] <;>
    (repeat' split) <;> rfl
@[simp] theorem dispatch_spi_halted (s : State) : (dispatch s).spi.halted = s.spi.halted := by
  unfold dispatch
  cases s.power.current <;>
    simp only [dispatchStart, dispatchWaitEntry, dispatchWait, dispatchButtonPress, dispatchButtonRelease,
      dispatchSignaledOnEntry, dispatchSignaledOn, dispatchMcuRunningEntry, dispatchMcuRunning, dispatchIdleEntry,
      dispatchAdcNoiseEntry, dispatchAdcNoiseExit, dispatchSignaledOffEntry, dispatchSignaledOff, dispatchMcuOffEntry,
      dispatchMcuOff, dispatchPowerDownEntry, dispatchPowerDownExit, dispatchUndefined] <;>
    (repeat' split) <;> rfl
@[simp] theorem dispatch_spi_auxDir (s : State) : (dispatch s).spi.auxDir = s.spi.auxDir := by
  unfold dispatch
  cases s.power.current <;>
    simp only [dispatchStart, dispatchWaitEntry, dispatchWait, dispatchButtonPress, dispatchButtonRelease,
      dispatchSignaledOnEntry, dispatchSignaledOn, dispatchMcuRunningEntry, dispatchMcuRunning, dispatchIdleEntry,
      dispatchAdcNoiseEntry, dispatchAdcNoiseExit, dispatchSignaledOffEntry, dispatchSignaledOff, dispatchMcuOffEntry,
      dispatchMcuOff, dispatchPowerDownEntry, dispatchPowerDownExit, dispatchUndefined] <;>
    (repeat' split) <;> rfl

/-- What a dispatch may change of the sequencer and the responder: nothing, but in the two states of the power-down (R199,
R200). -/
theorem dispatch_components (s : State) :
    (s.power.current = .powerDownEntry ∧ (dispatch s).adc = s.adc.presleep ∧ (dispatch s).spi = s.spi.presleep) ∨
    (s.power.current = .powerDownExit ∧ (dispatch s).adc = s.adc.postsleep ∧ (dispatch s).spi = s.spi.postsleep) ∨
    (s.power.current ≠ .powerDownEntry ∧ s.power.current ≠ .powerDownExit ∧ (dispatch s).adc = s.adc ∧
      (dispatch s).spi = s.spi) := by
  unfold dispatch
  cases s.power.current <;>
    simp only [dispatchStart, dispatchWaitEntry, dispatchWait, dispatchButtonPress, dispatchButtonRelease,
      dispatchSignaledOnEntry, dispatchSignaledOn, dispatchMcuRunningEntry, dispatchMcuRunning, dispatchIdleEntry,
      dispatchAdcNoiseEntry, dispatchAdcNoiseExit, dispatchSignaledOffEntry, dispatchSignaledOff, dispatchMcuOffEntry,
      dispatchMcuOff, dispatchPowerDownEntry, dispatchPowerDownExit, dispatchUndefined] <;>
    (repeat' split) <;> simp [State.goto, State.recoverToStart]

/-- Where the foreground stands after a dispatch: suspended by the two states that sleep, else as it was (R193, R199). -/
theorem dispatch_fgPhase (s : State) :
    (dispatch s).power.fgPhase =
      match s.power.current with
      | .powerDownEntry => .pdArmed
      | .adcNoiseEntry => .lightSleep
      | _ => s.power.fgPhase := by
  unfold dispatch
  cases s.power.current <;>
    simp only [dispatchStart, dispatchWaitEntry, dispatchWait, dispatchButtonPress, dispatchButtonRelease,
      dispatchSignaledOnEntry, dispatchSignaledOn, dispatchMcuRunningEntry, dispatchMcuRunning, dispatchIdleEntry,
      dispatchAdcNoiseEntry, dispatchAdcNoiseExit, dispatchSignaledOffEntry, dispatchSignaledOff, dispatchMcuOffEntry,
      dispatchMcuOff, dispatchPowerDownEntry, dispatchPowerDownExit, dispatchUndefined] <;>
    (repeat' split) <;> rfl

/-! ## The rest of a pass -/

@[simp] theorem State.finishPass_cfg (s : State) : s.finishPass.cfg = s.cfg := by simp [State.finishPass]
@[simp] theorem State.finishPass_debounce (s : State) : s.finishPass.debounce = s.debounce := by simp [State.finishPass]
@[simp] theorem State.finishPass_timers (s : State) : s.finishPass.timers = s.timers := by simp [State.finishPass]
@[simp] theorem State.finishPass_power (s : State) : s.finishPass.power = s.power := by simp [State.finishPass]
@[simp] theorem State.finishPass_schedule (s : State) : s.finishPass.schedule = s.schedule := by simp [State.finishPass]
@[simp] theorem State.finishPass_history (s : State) : s.finishPass.history = s.history := by simp [State.finishPass]
@[simp] theorem State.finishPass_sinceKick (s : State) : s.finishPass.sinceKick = some 0 := rfl
@[simp] theorem State.finishPass_adc (s : State) : s.finishPass.adc = s.adcPass.adc := by simp [State.finishPass]
@[simp] theorem State.finishPass_spi (s : State) :
    s.finishPass.spi = s.spi.consumeTransfer.performToggle.performBoot := by simp [State.finishPass]
@[simp] theorem State.finishPass_outputs (s : State) : s.finishPass.outputs = s.adcPass.outputs ++ [.wdtKick] := by
  simp [State.finishPass]

/-- A pass is a dispatch alone when the dispatch suspends the foreground, else a dispatch and the rest of the pass (R180). -/
theorem State.foregroundPass_cases (s : State) :
    ((dispatch s).power.fgPhase ≠ .run ∧ s.foregroundPass = dispatch s) ∨
    ((dispatch s).power.fgPhase = .run ∧ s.foregroundPass = (dispatch s).finishPass) := by
  unfold State.foregroundPass
  split
  · next h => exact .inr ⟨h, rfl⟩
  · next h => exact .inl ⟨h, rfl⟩

/-- The FSM registers and the timers after a pass are those after its dispatch (R180). -/
theorem State.foregroundPass_power (s : State) : s.foregroundPass.power = (dispatch s).power := by
  rcases s.foregroundPass_cases with ⟨_, h⟩ | ⟨_, h⟩ <;> simp [h]

theorem State.foregroundPass_timers (s : State) : s.foregroundPass.timers = (dispatch s).timers := by
  rcases s.foregroundPass_cases with ⟨_, h⟩ | ⟨_, h⟩ <;> simp [h]

@[simp] theorem State.foregroundPass_cfg (s : State) : s.foregroundPass.cfg = s.cfg := by
  rcases s.foregroundPass_cases with ⟨_, h⟩ | ⟨_, h⟩ <;> simp [h]
@[simp] theorem State.foregroundPass_debounce (s : State) : s.foregroundPass.debounce = s.debounce := by
  rcases s.foregroundPass_cases with ⟨_, h⟩ | ⟨_, h⟩ <;> simp [h]
@[simp] theorem State.foregroundPass_schedule (s : State) : s.foregroundPass.schedule = s.schedule := by
  rcases s.foregroundPass_cases with ⟨_, h⟩ | ⟨_, h⟩ <;> simp [h]
@[simp] theorem State.foregroundPass_history (s : State) : s.foregroundPass.history = s.history := by
  rcases s.foregroundPass_cases with ⟨_, h⟩ | ⟨_, h⟩ <;> simp [h]
@[simp] theorem State.foregroundPass_adc_channelMask (s : State) : s.foregroundPass.adc.channelMask = s.adc.channelMask := by
  rcases s.foregroundPass_cases with ⟨_, h⟩ | ⟨_, h⟩ <;> simp [h]

end Sys2Proof.Machine
end

