-- ==== Sys2Proof/Laws/Events.lean ====
section
/-! SUPPORT. Laws/Events.lean: when each event has a step and what the step is, said once for all later proofs
(spec/00_scope.md R7, spec/60_exceptions.md R233). -/

namespace Sys2Proof.Machine

theorem runEvent_tick_iff {b q : Bool} {s t : State} :
    runEvent (.tick b q) s = .next t ↔ s.spi.halted = false ∧ tickEnabled s = true ∧ s.tick b q = t := whenEnabled_next_iff

theorem runEvent_spiByte_iff {cs : Bool} {rx : Byte} {s t : State} :
    runEvent (.spiByte cs rx) s = .next t ↔ s.spi.halted = false ∧ s.spi.enabled = true ∧ s.transfer cs rx = t :=
  whenEnabled_next_iff

theorem runEvent_spiDeselect_iff {s t : State} :
    runEvent .spiDeselect s = .next t ↔ s.spi.halted = false ∧ s.spi.enabled = true ∧ s.deselect = t := whenEnabled_next_iff

theorem runEvent_adcDone_iff {v : Sample} {s t : State} :
    runEvent (.adcDone v) s = .next t ↔ s.spi.halted = false ∧ s.adc.busy = true ∧ s.conversionDone v = t :=
  whenEnabled_next_iff

theorem runEvent_wake_iff {s t : State} :
    runEvent .wake s = .next t ↔ s.spi.halted = false ∧ s.power.wakeArmed = true ∧ s.wakeUp = t := whenEnabled_next_iff

theorem runEvent_fgPass_iff {s t : State} :
    runEvent .fgPass s = .next t ↔ s.spi.halted = false ∧ s.power.fgPhase = .run ∧ s.foregroundPass = t := by
  simp only [runEvent, eventFgPass, whenEnabled_next_iff, decide_eq_true_eq]

theorem runEvent_fgPdSleep_iff {s t : State} :
    runEvent .fgPdSleep s = .next t ↔ s.spi.halted = false ∧ s.power.fgPhase = .pdArmed ∧ s.checkThenSleep = t := by
  simp only [runEvent, eventFgPdSleep, whenEnabled_next_iff, decide_eq_true_eq]

theorem runEvent_reset_iff {s t : State} :
    runEvent .reset s = .next t ↔
      { State.resetWith s.cfg with schedule := s.schedule, outputs := s.outputs, history := s.history } = t := by
  simp only [runEvent, eventReset, Host.Outcome.next.injEq]

/-- The steps an event can take, one case per event. -/
theorem runEvent_cases {e : Event} {s t : State} (h : runEvent e s = .next t) :
    (∃ b q, e = .tick b q ∧ s.spi.halted = false ∧ tickEnabled s = true ∧ t = s.tick b q) ∨
    (∃ cs rx, e = .spiByte cs rx ∧ s.spi.halted = false ∧ s.spi.enabled = true ∧ t = s.transfer cs rx) ∨
    (e = .spiDeselect ∧ s.spi.halted = false ∧ s.spi.enabled = true ∧ t = s.deselect) ∨
    (∃ v, e = .adcDone v ∧ s.spi.halted = false ∧ s.adc.busy = true ∧ t = s.conversionDone v) ∨
    (e = .wake ∧ s.spi.halted = false ∧ s.power.wakeArmed = true ∧ t = s.wakeUp) ∨
    (e = .fgPass ∧ s.spi.halted = false ∧ s.power.fgPhase = .run ∧ t = s.foregroundPass) ∨
    (e = .fgPdSleep ∧ s.spi.halted = false ∧ s.power.fgPhase = .pdArmed ∧ t = s.checkThenSleep) ∨
    (e = .reset ∧ t = { State.resetWith s.cfg with schedule := s.schedule, outputs := s.outputs, history := s.history }) := by
  cases e with
  | tick b q =>
    obtain ⟨h1, h2, h3⟩ := runEvent_tick_iff.1 h
    exact .inl ⟨b, q, rfl, h1, h2, h3.symm⟩
  | spiByte cs rx =>
    obtain ⟨h1, h2, h3⟩ := runEvent_spiByte_iff.1 h
    exact .inr (.inl ⟨cs, rx, rfl, h1, h2, h3.symm⟩)
  | spiDeselect =>
    obtain ⟨h1, h2, h3⟩ := runEvent_spiDeselect_iff.1 h
    exact .inr (.inr (.inl ⟨rfl, h1, h2, h3.symm⟩))
  | adcDone v =>
    obtain ⟨h1, h2, h3⟩ := runEvent_adcDone_iff.1 h
    exact .inr (.inr (.inr (.inl ⟨v, rfl, h1, h2, h3.symm⟩)))
  | wake =>
    obtain ⟨h1, h2, h3⟩ := runEvent_wake_iff.1 h
    exact .inr (.inr (.inr (.inr (.inl ⟨rfl, h1, h2, h3.symm⟩))))
  | fgPass =>
    obtain ⟨h1, h2, h3⟩ := runEvent_fgPass_iff.1 h
    exact .inr (.inr (.inr (.inr (.inr (.inl ⟨rfl, h1, h2, h3.symm⟩)))))
  | fgPdSleep =>
    obtain ⟨h1, h2, h3⟩ := runEvent_fgPdSleep_iff.1 h
    exact .inr (.inr (.inr (.inr (.inr (.inr (.inl ⟨rfl, h1, h2, h3.symm⟩))))))
  | reset => exact .inr (.inr (.inr (.inr (.inr (.inr (.inr ⟨rfl, (runEvent_reset_iff.1 h).symm⟩))))))

/-- A transaction is its three bytes when the serial hardware takes bytes; the precondition holds for all three if it holds
for the first (R140). -/
theorem transaction_step {a d p : Byte} {s : State} (hh : s.spi.halted = false) (he : s.spi.enabled = true) :
    transaction a d p s = .next (((s.transfer true a).transfer true d).transfer true p) := by
  have h1 : runEvent (.spiByte true a) s = .next (s.transfer true a) := runEvent_spiByte_iff.2 ⟨hh, he, rfl⟩
  have h2 : runEvent (.spiByte true d) (s.transfer true a) = .next ((s.transfer true a).transfer true d) :=
    runEvent_spiByte_iff.2 ⟨by simpa using hh, by simpa using he, rfl⟩
  have h3 : runEvent (.spiByte true p) ((s.transfer true a).transfer true d) =
      .next (((s.transfer true a).transfer true d).transfer true p) :=
    runEvent_spiByte_iff.2 ⟨by simpa using hh, by simpa using he, rfl⟩
  simp [transaction, h1, h2, h3]

theorem transaction_halted {a d p : Byte} {s : State} (h : s.spi.halted = true) :
    transaction a d p s = .fault .halted := by
  have h1 : runEvent (.spiByte true a) s = .fault .halted := whenEnabled_halted h
  simp [transaction, h1]

theorem transaction_noStep {a d p : Byte} {s : State} (h : s.spi.halted = false) (he : s.spi.enabled = false) :
    transaction a d p s = .refused (.noStep .spiByte) := by
  have h1 : runEvent (.spiByte true a) s = .refused (.noStep .spiByte) := whenEnabled_noStep h he
  simp [transaction, h1]

/-- The period has not passed exactly in a running block whose ticks since the last kick are known and within it (R247). -/
theorem State.kickOverdue_false_iff {s : State} :
    s.kickOverdue = false ↔ s.spi.halted = false ∧ ∃ n, s.sinceKick = some n ∧ n ≤ Config.wdtPeriod := by
  unfold State.kickOverdue
  cases s.spi.halted <;> cases s.sinceKick <;> simp

/-- The watchdog fires when it is present, overdue, and its policy says so (R233, R247). -/
theorem State.watchdogFires_iff {s : State} :
    s.watchdogFires = true ↔ s.cfg.wdtPresent = true ∧ s.kickOverdue = true ∧ Config.wdtPolicy s.history = true := by
  simp [State.watchdogFires, and_assoc]

end Sys2Proof.Machine
end

