-- ==== Sys2Proof/Laws/PerInstr.lean ====
section
/-! SUPPORT. Laws/PerInstr.lean: the statements made for each instruction, one lemma per constructor. -/

namespace Sys2Proof.Laws.AddressInRow

open Sys2Proof.Machine

/-- Bits 23:16 of a well-formed instruction's word match its row of the opcode table. -/
def Statement (i : Instr) : Prop :=
  i.wellFormed = true → ∃ r ∈ opcodeTable, r.mnemonic = rowOf i ∧ (i.address ++ (0 : BitVec 16) : BitVec 24) &&& r.mask = r.value

theorem of_row (i : Instr) (r : OpcodeRow) (hr : r ∈ opcodeTable) (hn : r.mnemonic = rowOf i)
    (hm : i.wellFormed = true → (i.address ++ (0 : BitVec 16) : BitVec 24) &&& r.mask = r.value) : Statement i :=
  fun h => ⟨r, hr, hn, hm h⟩

theorem setmask (d p : Byte) : Statement (.setmask d p) :=
  of_row _ ⟨"SETMASK", 0x010000, 0xFF0000⟩ (by decide) rfl fun _ =>
    (by decide : ((0x01 : Byte) ++ (0 : BitVec 16) : BitVec 24) &&& 0xFF0000 = 0x010000)
theorem getmask (d p : Byte) : Statement (.getmask d p) :=
  of_row _ ⟨"GETMASK", 0x020000, 0xFF0000⟩ (by decide) rfl fun _ =>
    (by decide : ((0x02 : Byte) ++ (0 : BitVec 16) : BitVec 24) &&& 0xFF0000 = 0x020000)
theorem auxtog (d p : Byte) : Statement (.auxtog d p) :=
  of_row _ ⟨"AUXTOG", 0x030000, 0xFF0000⟩ (by decide) rfl fun _ =>
    (by decide : ((0x03 : Byte) ++ (0 : BitVec 16) : BitVec 24) &&& 0xFF0000 = 0x030000)
theorem getver (d p : Byte) : Statement (.getver d p) :=
  of_row _ ⟨"GETVER", 0x040000, 0xFF0000⟩ (by decide) rfl fun _ =>
    (by decide : ((0x04 : Byte) ++ (0 : BitVec 16) : BitVec 24) &&& 0xFF0000 = 0x040000)
theorem bootld (d p : Byte) : Statement (.bootld d p) :=
  of_row _ ⟨"BOOTLD", 0x050000, 0xFF0000⟩ (by decide) rfl fun _ =>
    (by decide : ((0x05 : Byte) ++ (0 : BitVec 16) : BitVec 24) &&& 0xFF0000 = 0x050000)
theorem gethw (d p : Byte) : Statement (.gethw d p) :=
  of_row _ ⟨"GETHW", 0x060000, 0xFF0000⟩ (by decide) rfl fun _ =>
    (by decide : ((0x06 : Byte) ++ (0 : BitVec 16) : BitVec 24) &&& 0xFF0000 = 0x060000)
theorem getadc0 (d p : Byte) : Statement (.getadc0 d p) :=
  of_row _ ⟨"GETADC_0", 0x100000, 0xFF0000⟩ (by decide) rfl fun _ =>
    (by decide : ((0x10 : Byte) ++ (0 : BitVec 16) : BitVec 24) &&& 0xFF0000 = 0x100000)
theorem getadc1 (d p : Byte) : Statement (.getadc1 d p) :=
  of_row _ ⟨"GETADC_1", 0x110000, 0xFF0000⟩ (by decide) rfl fun _ =>
    (by decide : ((0x11 : Byte) ++ (0 : BitVec 16) : BitVec 24) &&& 0xFF0000 = 0x110000)
theorem getadc2 (d p : Byte) : Statement (.getadc2 d p) :=
  of_row _ ⟨"GETADC_2", 0x120000, 0xFF0000⟩ (by decide) rfl fun _ =>
    (by decide : ((0x12 : Byte) ++ (0 : BitVec 16) : BitVec 24) &&& 0xFF0000 = 0x120000)
theorem getadc3 (d p : Byte) : Statement (.getadc3 d p) :=
  of_row _ ⟨"GETADC_3", 0x130000, 0xFF0000⟩ (by decide) rfl fun _ =>
    (by decide : ((0x13 : Byte) ++ (0 : BitVec 16) : BitVec 24) &&& 0xFF0000 = 0x130000)
theorem getadc4 (d p : Byte) : Statement (.getadc4 d p) :=
  of_row _ ⟨"GETADC_4", 0x140000, 0xFF0000⟩ (by decide) rfl fun _ =>
    (by decide : ((0x14 : Byte) ++ (0 : BitVec 16) : BitVec 24) &&& 0xFF0000 = 0x140000)
theorem getadc5 (d p : Byte) : Statement (.getadc5 d p) :=
  of_row _ ⟨"GETADC_5", 0x150000, 0xFF0000⟩ (by decide) rfl fun _ =>
    (by decide : ((0x15 : Byte) ++ (0 : BitVec 16) : BitVec 24) &&& 0xFF0000 = 0x150000)
theorem getadc6 (d p : Byte) : Statement (.getadc6 d p) :=
  of_row _ ⟨"GETADC_6", 0x160000, 0xFF0000⟩ (by decide) rfl fun _ =>
    (by decide : ((0x16 : Byte) ++ (0 : BitVec 16) : BitVec 24) &&& 0xFF0000 = 0x160000)
theorem getadc7 (d p : Byte) : Statement (.getadc7 d p) :=
  of_row _ ⟨"GETADC_7", 0x170000, 0xFF0000⟩ (by decide) rfl fun _ =>
    (by decide : ((0x17 : Byte) ++ (0 : BitVec 16) : BitVec 24) &&& 0xFF0000 = 0x170000)
theorem rsvd00 (d p : Byte) : Statement (.rsvd00 d p) :=
  of_row _ ⟨"RSVD_00", 0x000000, 0xFF0000⟩ (by decide) rfl fun _ =>
    (by decide : ((0x00 : Byte) ++ (0 : BitVec 16) : BitVec 24) &&& 0xFF0000 = 0x000000)
theorem rsvd07 (d p : Byte) : Statement (.rsvd07 d p) :=
  of_row _ ⟨"RSVD_07", 0x070000, 0xFF0000⟩ (by decide) rfl fun _ =>
    (by decide : ((0x07 : Byte) ++ (0 : BitVec 16) : BitVec 24) &&& 0xFF0000 = 0x070000)
theorem rsvd08to0F (a d p : Byte) : Statement (.rsvd08to0F a d p) :=
  of_row _ ⟨"RSVD_08_0F", 0x080000, 0xF80000⟩ (by decide) rfl fun h =>
    (by decide : ∀ a : Byte, Instr.wellFormed (.rsvd08to0F a 0 0) = true → (a ++ (0 : BitVec 16) : BitVec 24) &&& 0xF80000 = 0x080000) a h
theorem rsvd18to1F (a d p : Byte) : Statement (.rsvd18to1F a d p) :=
  of_row _ ⟨"RSVD_18_1F", 0x180000, 0xF80000⟩ (by decide) rfl fun h =>
    (by decide : ∀ a : Byte, Instr.wellFormed (.rsvd18to1F a 0 0) = true → (a ++ (0 : BitVec 16) : BitVec 24) &&& 0xF80000 = 0x180000) a h
theorem rsvd20to3F (a d p : Byte) : Statement (.rsvd20to3F a d p) :=
  of_row _ ⟨"RSVD_20_3F", 0x200000, 0xE00000⟩ (by decide) rfl fun h =>
    (by decide : ∀ a : Byte, Instr.wellFormed (.rsvd20to3F a 0 0) = true → (a ++ (0 : BitVec 16) : BitVec 24) &&& 0xE00000 = 0x200000) a h
theorem rsvd40to7F (a d p : Byte) : Statement (.rsvd40to7F a d p) :=
  of_row _ ⟨"RSVD_40_7F", 0x400000, 0xC00000⟩ (by decide) rfl fun h =>
    (by decide : ∀ a : Byte, Instr.wellFormed (.rsvd40to7F a 0 0) = true → (a ++ (0 : BitVec 16) : BitVec 24) &&& 0xC00000 = 0x400000) a h
theorem rsvd80toFF (a d p : Byte) : Statement (.rsvd80toFF a d p) :=
  of_row _ ⟨"RSVD_80_FF", 0x800000, 0x800000⟩ (by decide) rfl fun h =>
    (by decide : ∀ a : Byte, Instr.wellFormed (.rsvd80toFF a 0 0) = true → (a ++ (0 : BitVec 16) : BitVec 24) &&& 0x800000 = 0x800000) a h

end Sys2Proof.Laws.AddressInRow
end

