-- ==== Sys2Proof/Laws/Step.lean ====
section
/-! SUPPORT. Laws/Step.lean: what a step can do, said once (spec/00_scope.md R7, notes/assumptions/2.md and 3.md). -/

namespace Sys2Proof.Machine

/-- The watchdog's step is RESET's, where it fires (R233). -/
theorem stepWatchdog_next_iff {rest : List Input} {s t : State} :
    stepWatchdog rest s = .next t ↔ s.watchdogFires = true ∧ runEvent .reset (s.beginStep .watchdog rest) = .next t := by
  unfold stepWatchdog
  cases s.watchdogFires <;> simp

/-- With nothing scheduled a step is the foreground's event or a wait (notes/assumptions/3.md). -/
theorem stepUnscheduled_next_iff {s t : State} :
    stepUnscheduled s = .next t ↔ s.spi.halted = false ∧
      ((∃ e, foregroundEvent s = some e ∧ runEvent e (s.beginStep (.event e) []) = .next t) ∨
        (foregroundEvent s = none ∧ { s with outputs := [] } = t)) := by
  unfold stepUnscheduled
  cases s.spi.halted <;> cases foregroundEvent s <;> simp

/-- A step that answers a next state runs a transaction, or runs one event, or waits. The input it took is recorded, and the
schedule's tail remains. -/
theorem step_cases {s t : State} (h : step s = .next t) :
    (∃ m1 m2 m3, exec (decodeXfer m1 m2 m3) (s.beginStep (.xfer m1 m2 m3) s.schedule.tail) = .next t) ∨
    (∃ x e, runEvent e (s.beginStep x s.schedule.tail) = .next t) ∨
    (s.schedule = [] ∧ { s with outputs := [] } = t) := by
  unfold step at h
  split at h
  · next m1 m2 m3 rest hs => exact .inl ⟨m1, m2, m3, by rw [hs]; exact h⟩
  · next e rest hs => exact .inr (.inl ⟨_, e, by rw [hs]; exact h⟩)
  · next rest hs => exact .inr (.inl ⟨_, .reset, by rw [hs]; exact (stepWatchdog_next_iff.1 h).2⟩)
  · next hs =>
    obtain ⟨-, ⟨e, -, h⟩ | ⟨-, h⟩⟩ := stepUnscheduled_next_iff.1 h
    · exact .inr (.inl ⟨_, e, by rw [hs]; exact h⟩)
    · exact .inr (.inr ⟨hs, h⟩)

end Sys2Proof.Machine
end

