-- ==== Sys2Proof/Tests/Slice0.lean ====
section
/-! SUPPORT. Tests/Slice0.lean: tests of the model and witnesses of the statements' hypotheses. Expected results are those of
spec/95_test_vectors.md (V-…), or are worked out from the rule named. -/

namespace Sys2Proof.Tests

open Sys2Proof.Machine

/-! ## Helpers -/

/-- The state after reset in the reference build, which the vectors of spec/95_test_vectors.md use. -/
def base : State := State.resetWith Config.Params.reference

/-- The state of an outcome that is a next state. -/
def after (r : Result) : Option State :=
  match r with
  | .next t => some t
  | .fault _ => none
  | .refused _ => none

/-- The reason of a refusal. -/
def refusalOf (r : Result) : Option Refusal :=
  match r with
  | .next _ => none
  | .fault _ => none
  | .refused e => some e

/-- The reason of a fault. -/
def faultOf (r : Result) : Option Fault :=
  match r with
  | .next _ => none
  | .fault e => some e
  | .refused _ => none

/-- The bytes driven on miso by an outcome that is a next state. -/
def miso (r : Result) : Option (List Byte) := (after r).map fun t => drivenBytes t.outputs

/-- Reset, with the power FSM in `current`, `previous` with the supply `on`. -/
def fsm (current previous : PowerState) (on : Bool) : State :=
  { base with power := { base.power with current := current, previous := previous, powerEnable := on } }

/-- The state with other debounce masks. -/
def lines (button peer : MaskBits) (s : State) : State :=
  { s with debounce := { s.debounce with buttonMask := button, peerMask := peer } }

/-- The state with other timers. -/
def timed (wakeup button idle : Int) (s : State) : State :=
  { s with timers := { wakeup := wakeup, button := button, idle := idle } }

/-- The state with another foreground phase. -/
def phased (f : FgPhase) (s : State) : State := { s with power := { s.power with fgPhase := f } }

/-- `current`, `previous`, the two output registers and the timers after one FG_PASS. -/
def passed (s : State) : Option ((PowerState × PowerState) × (Bool × Bool) × TimerRegs) :=
  (after (runEvent .fgPass s)).map fun t =>
    ((t.power.current, t.power.previous), (t.power.powerEnable, t.power.shutdownRequest), t.timers)

/-- Reset with another value table and mask. -/
def table (m : Byte) (value : Vector Sample 8) : State :=
  { base with adc := { base.adc with channelMask := m, value := value } }

/-- Reset with another count of bytes. -/
def counted (p : Phase) : State := { base with spi := { base.spi with phase := p } }

/-- Reset with the serial hardware off. -/
def busOff : State := { base with spi := { base.spi with enabled := false } }

/-- Reset, halted. -/
def haltedState : State := { base with spi := { base.spi with halted := true, bootReq := true } }

/-- Reset in a build with four channels. -/
def fourChannels : State := State.resetWith { Config.Params.reference with nCh := 4 }

/-- The block armed for the power-down: the state after V-F21. -/
def armed : State :=
  { base with
    power :=
      { base.power with current := .powerDownEntry, previous := .signaledOff, fgPhase := .pdArmed, wakeArmed := true }
    adc := { base.adc with enabled := false }
    spi := { base.spi with enabled := false } }

/-- The block in deep sleep, in a build with the parameters `p`: after V-F22. -/
def asleep (p : Config.Params) : State :=
  { armed with
    cfg := p
    power := { armed.power with current := .powerDownExit, fgPhase := .deepSleep } }

/-- The block after it was woken: before V-F23. -/
def woken : State :=
  { armed with
    power := { armed.power with current := .powerDownExit, fgPhase := .run, wakePending := true }
    adc := { armed.adc with currentChannel := some 1, channelMask := 0x06 }
    spi := { armed.spi with phase := .expectByte2 } }

/-- A conversion in flight on channel `c`, with the mask `m` and the flag `done`. -/
def converting (m : Byte) (c : Chan) (done : Bool) : State :=
  { base with
    adc := { base.adc with channelMask := m, currentChannel := some c, complete := done } }

/-- A build with the smallest widths R6 allows, and one with the largest. -/
def smallest : Config.Params :=
  { Config.Params.reference with w := 1, nCh := 1, timerW := 2, buttonHoldTicks := 1, wakeupTicks := 1, idleTicks := 1 }

/-- See `smallest`. -/
def largest : Config.Params := { Config.Params.reference with w := 16, nCh := 8, timerW := 64 }

/-! ## Well-formedness: each check refuses a term -/

theorem test_illformed_08_0F : (Instr.rsvd08to0F 0x07 0 0).wellFormed = false ∧ (Instr.rsvd08to0F 0x10 0 0).wellFormed = false := by
  decide

theorem test_illformed_18_1F : (Instr.rsvd18to1F 0x17 0 0).wellFormed = false ∧ (Instr.rsvd18to1F 0x20 0 0).wellFormed = false := by
  decide

theorem test_illformed_20_3F : (Instr.rsvd20to3F 0x1F 0 0).wellFormed = false ∧ (Instr.rsvd20to3F 0x40 0 0).wellFormed = false := by
  decide

theorem test_illformed_40_7F : (Instr.rsvd40to7F 0x3F 0 0).wellFormed = false ∧ (Instr.rsvd40to7F 0x80 0 0).wellFormed = false := by
  decide

theorem test_illformed_80_FF : (Instr.rsvd80toFF 0x7F 0 0).wellFormed = false := by decide

/-! ## Decoding: words written out from R81, R82 and the opcode table -/

theorem test_decode_commands :
    decodeTableWord 24 0b00000001_00000011_11101110 = some (.setmask 0x03 0xEE) ∧
    decodeTableWord 24 0b00000010_10101010_01010101 = some (.getmask 0xAA 0x55) ∧
    decodeTableWord 24 0b00000011_10011001_01110111 = some (.auxtog 0x99 0x77) ∧
    decodeTableWord 24 0b00000100_00000001_00000010 = some (.getver 0x01 0x02) ∧
    decodeTableWord 24 0b00000101_10000000_00000001 = some (.bootld 0x80 0x01) ∧
    decodeTableWord 24 0b00000110_00010000_00000000 = some (.gethw 0x10 0x00) := by
  decide

theorem test_decode_channels :
    decodeTableWord 24 0b00010000_00000001_00000010 = some (.getadc0 0x01 0x02) ∧
    decodeTableWord 24 0b00010001_00000011_00000100 = some (.getadc1 0x03 0x04) ∧
    decodeTableWord 24 0b00010010_00000101_00000110 = some (.getadc2 0x05 0x06) ∧
    decodeTableWord 24 0b00010011_00000111_00001000 = some (.getadc3 0x07 0x08) ∧
    decodeTableWord 24 0b00010100_00001001_00001010 = some (.getadc4 0x09 0x0A) ∧
    decodeTableWord 24 0b00010101_00001011_00001100 = some (.getadc5 0x0B 0x0C) ∧
    decodeTableWord 24 0b00010110_00001101_00001110 = some (.getadc6 0x0D 0x0E) ∧
    decodeTableWord 24 0b00010111_00001111_00010000 = some (.getadc7 0x0F 0x10) := by
  decide

theorem test_decode_reserved_low :
    decodeTableWord 24 0b00000000_10101010_01010101 = some (.rsvd00 0xAA 0x55) ∧
    decodeTableWord 24 0b00000111_10101010_01010101 = some (.rsvd07 0xAA 0x55) ∧
    decodeTableWord 24 0b00001000_10101010_01010101 = some (.rsvd08to0F 0x08 0xAA 0x55) ∧
    decodeTableWord 24 0b00001111_10101010_01010101 = some (.rsvd08to0F 0x0F 0xAA 0x55) ∧
    decodeTableWord 24 0b00011000_10101010_01010101 = some (.rsvd18to1F 0x18 0xAA 0x55) ∧
    decodeTableWord 24 0b00011111_10101010_01010101 = some (.rsvd18to1F 0x1F 0xAA 0x55) := by
  decide

theorem test_decode_reserved_high :
    decodeTableWord 24 0b00100000_10101010_01010101 = some (.rsvd20to3F 0x20 0xAA 0x55) ∧
    decodeTableWord 24 0b00111111_10101010_01010101 = some (.rsvd20to3F 0x3F 0xAA 0x55) ∧
    decodeTableWord 24 0b01000000_10101010_01010101 = some (.rsvd40to7F 0x40 0xAA 0x55) ∧
    decodeTableWord 24 0b01111111_10101010_01010101 = some (.rsvd40to7F 0x7F 0xAA 0x55) ∧
    decodeTableWord 24 0b10000000_10101010_01010101 = some (.rsvd80toFF 0x80 0xAA 0x55) ∧
    decodeTableWord 24 0b11111111_10101010_01010101 = some (.rsvd80toFF 0xFF 0xAA 0x55) := by
  decide

/-! ## Transactions (V-S1 to V-S15) -/

/-- V-S1. -/
theorem test_setmask : miso (exec (.setmask 0x03 0) base) = some [0, 0, 0] ∧
    (after (exec (.setmask 0x03 0) base)).map (·.adc.channelMask) = some 0x03 := by decide

/-- V-S12: all 8 bits are stored although N_CH = 4. -/
theorem test_setmask_all_bits :
    (after (exec (.setmask 0xF3 0) fourChannels)).map (·.adc.channelMask) = some 0xF3 := by decide

/-- V-S2. -/
theorem test_getmask : miso (exec (.getmask 0xAA 0x55) (table 0x03 (Vector.replicate 8 0))) = some [0, 0x03, 0] := by decide

/-- V-S3. -/
theorem test_auxtog :
    (after (exec (.auxtog 0 0) base)).map (fun t => (t.spi.auxToggleReq, t.spi.auxDir, t.spi.xferFlag)) =
      some (true, false, true) := by decide

/-- V-S15. -/
theorem test_getver :
    miso (exec (.getver 0 0) (State.resetWith { Config.Params.reference with majorVersion := 2, minorVersion := 7 })) =
      some [0, 2, 7] := by decide

/-- V-S5. -/
theorem test_bootld :
    (after (exec (.bootld 0 0) base)).map (fun t => (t.spi.bootReq, t.spi.halted, t.spi.auxToggleReq)) =
      some (true, false, false) := by decide

/-- V-S6b. -/
theorem test_gethw :
    miso (exec (.gethw 0 0) (State.resetWith { Config.Params.reference with hwVariant := 1 })) = some [0, 1, 0] := by decide

/-- A table in which every slot and both its bytes differ (R150). -/
def distinct : State := table 0 #v[0x0110, 0x1234, 0x0312, 0x0413, 0x0514, 0x0615, 0x0716, 0xFFFE]

/-- R150, V-S7: channels 0 and 1, low byte first. -/
theorem test_getadc0 : miso (exec (.getadc0 0 0) distinct) = some [0, 0x10, 0x01] := by decide
theorem test_getadc1 : miso (exec (.getadc1 0 0) distinct) = some [0, 0x34, 0x12] := by decide
theorem test_getadc2 : miso (exec (.getadc2 0 0) distinct) = some [0, 0x12, 0x03] := by decide
theorem test_getadc3 : miso (exec (.getadc3 0 0) distinct) = some [0, 0x13, 0x04] := by decide
theorem test_getadc4 : miso (exec (.getadc4 0 0) distinct) = some [0, 0x14, 0x05] := by decide
theorem test_getadc5 : miso (exec (.getadc5 0 0) distinct) = some [0, 0x15, 0x06] := by decide
theorem test_getadc6 : miso (exec (.getadc6 0 0) distinct) = some [0, 0x16, 0x07] := by decide
theorem test_getadc7 : miso (exec (.getadc7 0 0) distinct) = some [0, 0xFE, 0xFF] := by decide

/-- V-S11: in a build with four channels 0x13 reads channel 3 and 0x14 is reserved. -/
theorem test_getadc_absent :
    miso (exec (.getadc3 0 0) { distinct with cfg := fourChannels.cfg }) = some [0, 0x13, 0x04] ∧
    miso (exec (.getadc4 0 0) { distinct with cfg := fourChannels.cfg }) = some [0, 0, 0] := by decide

/-- V-S10. -/
def full : State := table 0xFF (Vector.replicate 8 0x1111)

/-- The answer, the mask and the flags after a command (V-S10). -/
def answer (i : Instr) : Option (List Byte × Byte × Bool × Bool × Bool) :=
  (after (exec i full)).map fun t =>
    (drivenBytes t.outputs, t.adc.channelMask, t.spi.xferFlag, t.spi.auxToggleReq, t.spi.bootReq)

theorem test_rsvd00 : answer (.rsvd00 0xAA 0x55) = some ([0, 0, 0], 0xFF, true, false, false) := by decide
theorem test_rsvd07 : answer (.rsvd07 0xAA 0x55) = some ([0, 0, 0], 0xFF, true, false, false) := by decide
theorem test_rsvd0F : answer (.rsvd08to0F 0x0F 0xAA 0x55) = some ([0, 0, 0], 0xFF, true, false, false) := by decide
theorem test_rsvd18 : answer (.rsvd18to1F 0x18 0xAA 0x55) = some ([0, 0, 0], 0xFF, true, false, false) := by decide
theorem test_rsvd20 : answer (.rsvd20to3F 0x20 0xAA 0x55) = some ([0, 0, 0], 0xFF, true, false, false) := by decide
theorem test_rsvd7F : answer (.rsvd40to7F 0x7F 0xAA 0x55) = some ([0, 0, 0], 0xFF, true, false, false) := by decide
theorem test_rsvdFF : answer (.rsvd80toFF 0xFF 0xAA 0x55) = some ([0, 0, 0], 0xFF, true, false, false) := by decide

/-! ## Serial events (V-B1 to V-B12) -/

/-- V-B3: the address of an abandoned SETMASK takes the next transaction's address byte as its data. -/
theorem test_misframe :
    (after (exec (.getmask 0 0) { base with spi := { base.spi with phase := .expectByte2, addr := 0x01 } })).map
      (fun t => (t.adc.channelMask, t.spi.phase, t.spi.addr)) = some (0x02, .expectByte2, 0) := by decide

/-- V-B6: s_1 is the byte left over from the transaction that was cut off. -/
theorem test_stale_first_byte :
    miso (exec (.getver 0 0) { base with spi := { base.spi with tx := 0xBE } }) = some [0xBE, 1, 0] := by decide

/-- V-B2: a byte with the gate not asserted. -/
theorem test_unaddressed_byte :
    (after (runEvent (.spiByte false 0x01) (counted .expectByte2))).map
      (fun t => (t.spi.phase, t.spi.xferFlag, t.outputs)) = some (.expectByte2, true, [.miso .hiZ]) := by decide

/-- V-B10: the count 3 is read as ExpectAddress. -/
theorem test_count_three :
    (after (runEvent (.spiByte true 0x04) (counted .reserved3))).map (fun t => (t.spi.phase, t.spi.tx)) =
      some (.expectByte2, 1) := by decide

/-- V-B4. -/
theorem test_deselect :
    (after (runEvent .spiDeselect (counted .expectByte3))).map (·.spi.phase) = some .expectAddress := by decide

/-- V-B8: no step after the halt but RESET's. -/
theorem test_halt :
    (after (runEvent .fgPass { base with spi := { base.spi with bootReq := true } })).map
      (fun t => (t.spi.halted, t.outputs)) = some (true, [.wdtKick]) ∧
    faultOf (exec (.getver 0 0) haltedState) = some .halted ∧
    (after (runEvent .reset haltedState)).map (fun t => (t.spi.halted, t.spi.bootReq)) = some (false, false) := by decide

/-! ## The tick (V-D1 to V-T4) -/

/-- V-D1, the first and the eighth tick; V-D8. -/
theorem test_debounce :
    (after (runEvent (.tick false true) base)).map (fun t => (t.debounce.buttonMask, t.debounce.buttonIn)) =
      some (0xFE, false) ∧
    (after (runEvent (.tick false true) (lines 0x80 0xFF base))).map
      (fun t => (t.debounce.buttonMask, t.debounce.buttonIn)) = some (0, true) ∧
    (after (runEvent (.tick true true) (lines 0x80 0xFF base))).map (·.debounce.buttonMask) = some 0x01 := by decide

/-- V-T1, V-T2. -/
theorem test_timers :
    (after (runEvent (.tick true true) (timed 32767 (-1) 0 base))).map (·.timers) =
      some { wakeup := 32767, button := -1, idle := 1 } := by decide

/-- V-T4. -/
theorem test_tick_in_sleep :
    refusalOf (runEvent (.tick true true) (asleep Config.Params.reference)) = some (.noStep .tick) ∧
    (after (runEvent (.tick true true) (asleep { Config.Params.reference with tickInDeepSleep := true }))).map
      (·.power.fgPhase) = some .deepSleep := by decide

/-! ## The sequencer (V-A0 to V-A11) -/

/-- V-A0b: the wrap, the channel itself, nothing requested, and a build with four channels. -/
theorem test_next_channel :
    nextChannel Config.Params.reference 0b00000011 1 = some 0 ∧ nextChannel Config.Params.reference 0x80 7 = some 7 ∧
    nextChannel Config.Params.reference 0b00001010 5 = some 1 ∧ nextChannel Config.Params.reference 0 3 = none ∧
    nextChannel { Config.Params.reference with nCh := 4 } 0xF3 3 = some 0 := by decide

/-- V-A2. -/
theorem test_start :
    (after (runEvent .fgPass (table 0x06 (Vector.replicate 8 0)))).map (fun t => (t.adc.currentChannel, t.outputs)) =
      some (some 1, [.adcStart 1, .wdtKick]) := by decide

/-- V-A4. -/
theorem test_zeroing :
    (after (runEvent .fgPass
      { converting 0x01 0 false with
        adc := { (converting 0x01 0 false).adc with value := #v[5, 6, 7, 0, 0, 0, 0, 9] } })).map
      (fun t => (t.adc.value, t.adc.currentChannel, t.outputs)) =
      some (#v[5, 0, 0, 0, 0, 0, 0, 0], some 0, [.wdtKick]) := by decide

/-- V-A5: a result of a channel no longer requested is stored, and kept in the pass that collects it. -/
theorem test_stale_result :
    (after (runEvents [.adcDone 0x7777, .fgPass] (converting 0 1 false))).map
      (fun t => (t.adc.value[1], t.adc.currentChannel, t.adc.complete)) = some (0x7777, none, false) := by decide

/-- V-A6. -/
theorem test_adc_done_precondition :
    refusalOf (runEvent (.adcDone 1) base) = some (.noStep .adcDone) ∧
    refusalOf (runEvent (.adcDone 2) (converting 0x01 0 true)) = some (.noStep .adcDone) := by decide

/-! ## The power FSM (V-F1 to V-F28) -/

/-- V-F1, V-F2. -/
theorem test_boot :
    passed base = some ((.waitEntry, .start), (false, false), ⟨-1, -1, -1⟩) ∧
    passed (fsm .waitEntry .start false) = some ((.wait, .start), (false, false), ⟨0, -1, -1⟩) := by decide

/-- V-F5, V-F5b. -/
theorem test_wait :
    passed (timed 5000 (-1) (-1) (fsm .wait .start false)) = some ((.mcuOffEntry, .wait), (false, false), ⟨5000, -1, -1⟩) ∧
    passed (timed 4999 (-1) (-1) (fsm .wait .start false)) = some ((.wait, .start), (false, false), ⟨4999, -1, -1⟩) := by
  decide

/-- V-F5c, V-F5d. -/
theorem test_wait_lines :
    passed (lines 0 0xFF (timed 5000 (-1) (-1) (fsm .wait .start false))) =
      some ((.buttonPress, .wait), (false, false), ⟨5000, -1, -1⟩) ∧
    passed (lines 0x0F 0xFF (timed 5000 (-1) (-1) (fsm .wait .start false))) =
      some ((.mcuOffEntry, .wait), (false, false), ⟨5000, -1, -1⟩) := by decide

/-- V-F8a to V-F8c. -/
theorem test_release :
    passed (timed 300 199 (-1) (fsm .buttonRelease .wait false)) = some ((.waitEntry, .wait), (false, false), ⟨300, -1, -1⟩) ∧
    passed (timed 300 200 (-1) (fsm .buttonRelease .wait false)) =
      some ((.signaledOnEntry, .wait), (false, false), ⟨300, -1, -1⟩) ∧
    passed (timed (-1) 199 (-1) (fsm .buttonRelease .signaledOn true)) =
      some ((.signaledOnEntry, .signaledOn), (true, false), ⟨-1, -1, -1⟩) := by decide

/-- V-F8d to V-F8f. -/
theorem test_release_on :
    passed (timed (-1) 200 (-1) (fsm .buttonRelease .signaledOn true)) =
      some ((.mcuOffEntry, .signaledOn), (true, false), ⟨-1, -1, -1⟩) ∧
    passed (timed (-1) 199 (-1) (fsm .buttonRelease .mcuRunning true)) =
      some ((.mcuRunningEntry, .mcuRunning), (true, false), ⟨-1, -1, -1⟩) ∧
    passed (timed (-1) 200 (-1) (fsm .buttonRelease .mcuRunning true)) =
      some ((.signaledOffEntry, .mcuRunning), (true, false), ⟨-1, -1, -1⟩) := by decide

/-- V-F7b, V-F9. -/
theorem test_release_bouncing_and_abnormal :
    passed (lines 0x7F 0xFF (timed (-1) 300 (-1) (fsm .buttonRelease .wait false))) =
      some ((.buttonRelease, .wait), (false, false), ⟨-1, 300, -1⟩) ∧
    passed (timed (-1) 300 (-1) (fsm .buttonRelease .signaledOff true)) =
      some ((.start, .signaledOff), (true, false), ⟨-1, -1, -1⟩) := by decide

/-- V-F11b, V-F13d, V-F13g. -/
theorem test_on_states :
    passed (lines 0 0 (fsm .signaledOn .wait true)) = some ((.mcuRunningEntry, .signaledOn), (true, false), ⟨-1, -1, -1⟩) ∧
    passed (lines 0 0xFF (fsm .mcuRunning .signaledOn true)) = some ((.buttonPress, .mcuRunning), (true, false), ⟨-1, -1, -1⟩) ∧
    passed (lines 0xFF 0 (timed (-1) (-1) 3000 (fsm .mcuRunning .signaledOn true))) =
      some ((.mcuRunning, .signaledOn), (true, false), ⟨-1, -1, 3000⟩) := by decide

/-- V-F12b, V-F13f, with IDLE_ENABLE. -/
theorem test_idle :
    passed { fsm .mcuRunningEntry .signaledOn true with cfg := { Config.Params.reference with idleEnable := true } } =
      some ((.mcuRunning, .signaledOn), (true, false), ⟨-1, -1, 0⟩) ∧
    passed { lines 0xFF 0 (timed (-1) (-1) 3000 (fsm .mcuRunning .signaledOn true)) with
             cfg := { Config.Params.reference with idleEnable := true } } =
      some ((.idleEntry, .mcuRunning), (true, false), ⟨-1, -1, -1⟩) := by decide

/-- V-F15. -/
theorem test_light_sleep :
    (after (runEvent .fgPass (fsm .adcNoiseEntry .mcuRunning true))).map
      (fun t => (t.power.current, t.power.fgPhase, t.outputs)) = some (.adcNoiseExit, .lightSleep, []) := by decide

/-- V-F18b, V-F18c, V-F19. -/
theorem test_off_states :
    passed (lines 0 0 (fsm .signaledOff .mcuRunning true)) = some ((.signaledOff, .mcuRunning), (true, false), ⟨-1, -1, -1⟩) ∧
    passed (fsm .signaledOff .mcuRunning true) = some ((.mcuOffEntry, .signaledOff), (true, false), ⟨-1, -1, -1⟩) ∧
    passed (timed 7 8 (-1) (fsm .mcuOffEntry .signaledOff true)) =
      some ((.mcuOff, .signaledOff), (false, false), ⟨-1, -1, -1⟩) := by decide

/-- V-F21: a stale wake is cleared by the arming. -/
theorem test_arming :
    (after (runEvent .fgPass
      { fsm .powerDownEntry .signaledOff false with
        power := { (fsm .powerDownEntry .signaledOff false).power with wakePending := true } })).map
      (fun t => (t.power, t.adc.enabled, t.spi.enabled, t.outputs)) = some (armed.power, false, false, []) := by decide

/-- V-F22, V-F26. -/
theorem test_check_then_sleep :
    (after (runEvent .fgPdSleep armed)).map (fun t => (t.power.current, t.power.fgPhase)) =
      some (.powerDownExit, .deepSleep) ∧
    (after (runEvents [.wake, .fgPdSleep] armed)).map (fun t => (t.power.current, t.power.fgPhase)) =
      some (.powerDownExit, .run) ∧
    (after (runEvent .wake (asleep Config.Params.reference))).map (fun t => (t.power.wakePending, t.power.fgPhase)) =
      some (true, .run) := by decide

/-- V-F23, with the mask not 0. -/
theorem test_power_down_exit :
    (after (runEvent .fgPass woken)).map
      (fun t => (t.power.current, t.spi.phase, t.adc.currentChannel, t.power.wakeArmed, t.timers.wakeup)) =
      some (.waitEntry, .expectAddress, some 1, false, 0) := by decide

/-- V-F24b: the state 31. -/
theorem test_undefined_state :
    passed (timed 9 (-1) (-1) (fsm (PowerState.ofCode 31) .wait true)) =
      some ((.start, .wait), (true, false), ⟨9, -1, -1⟩) := by decide

/-- V-F25, V-F27, V-F28: events without a step. -/
theorem test_no_step :
    refusalOf (runEvent .fgPass armed) = some (.noStep .fgPass) ∧
    refusalOf (runEvent (.spiByte true 0) armed) = some (.noStep .spiByte) ∧
    refusalOf (runEvent .spiDeselect armed) = some (.noStep .spiDeselect) ∧
    refusalOf (runEvent .wake base) = some (.noStep .wake) ∧
    refusalOf (runEvent .fgPdSleep base) = some (.noStep .fgPdSleep) := by decide

/-! ## The step -/

/-- The word of GETVER placed with `withFetchWord` is the first thing run after reset, in the build of State.reset and in the
reference build (R148, V-S4). -/
theorem test_first_step :
    miso (step (State.reset.withFetchWord 24 0x040000)) = some [0, Config.openMajorVersion, Config.openMinorVersion] ∧
    miso (step (base.withFetchWord 24 0x040000)) = some [0, 1, 0] := ⟨rfl, by decide⟩

/-- Nothing scheduled: the foreground's own pass from reset (V-F1). -/
theorem test_unscheduled_step :
    (after (step State.reset)).map (fun t => (t.power.current, t.outputs, t.history)) =
      some (.waitEntry, [.wdtKick], [.event .fgPass]) := by decide

/-- R247: a complete pass begins the watchdog's period anew, and right after it the watchdog does not fire, present or not. -/
theorem test_watchdog_kicked :
    (after (runEvent .fgPass { base with sinceKick := some 7 })).map (·.sinceKick) = some (some 0) ∧
    { base with sinceKick := some 0, cfg := { Config.Params.reference with wdtPresent := true } }.kickOverdue = false :=
  ⟨by decide, by simp [State.kickOverdue, base, State.resetWith]⟩

/-- R233: no step of the watchdog in a build without one. -/
theorem test_watchdog_absent :
    refusalOf (step { base with schedule := [.watchdog] }) = some (.noStep .watchdog) := by decide

/-! ## Witnesses: for every statement with hypotheses, a state and operands that meet them all -/

theorem witness_ResetMeetsInvariant : Config.Params.reference.Legal ∧ smallest.Legal ∧ largest.Legal := by decide

theorem witness_DecodeOfEncodeIsTheInstruction :
    ∀ i ∈ [Instr.setmask 0 0xFF, .getadc7 0xFF 0, .rsvd08to0F 0x08 0 0, .rsvd08to0F 0x0F 0 0, .rsvd18to1F 0x18 0 0,
      .rsvd18to1F 0x1F 0 0, .rsvd20to3F 0x20 0 0, .rsvd20to3F 0x3F 0 0, .rsvd40to7F 0x40 0 0, .rsvd40to7F 0x7F 0 0,
      .rsvd80toFF 0x80 0 0, .rsvd80toFF 0xFF 0 0], i.wellFormed = true := by decide

theorem witness_EncodeOfDecodeIsTheBytes : ([] : List Byte).length < 3 ∧ ([0x01, 0x02] : List Byte).length < 3 := by decide

/-- Reset with inputs scheduled. -/
def scheduled (inputs : List Input) : State := { base with schedule := inputs }

theorem witness_StepRunsTheDecodedTransaction :
    (scheduled [.xfer 0x01 0x03 0x00, .event .fgPass]).schedule = .xfer 0x01 0x03 0x00 :: [.event .fgPass] ∧
    decode ([0x01, 0x03, 0x00] ++ []) = .ok (.setmask 0x03 0x00, []) := ⟨rfl, rfl⟩

theorem witness_StepRunsTheScheduledEvent :
    (scheduled [.event (.tick false true), .event .fgPass]).schedule = .event (.tick false true) :: [.event .fgPass] := rfl

theorem witness_StepWithNothingScheduledIsTheForeground :
    (∀ s ∈ [base, armed, phased .lightSleep (fsm .adcNoiseExit .mcuRunning true), asleep Config.Params.reference],
      s.schedule = [] ∧ s.spi.halted = false) ∧
    base.power.fgPhase = .run ∧ armed.power.fgPhase = .pdArmed ∧
    (phased .lightSleep (fsm .adcNoiseExit .mcuRunning true)).power.fgPhase = .lightSleep ∧
    (asleep Config.Params.reference).power.fgPhase = .deepSleep := by decide

theorem witness_FetchedTableWordIsRun :
    decodeTableWord 24 0x010300 = some (.setmask 0x03 0x00) ∧ decodeTableWord 24 0xFFFFFF = some (.rsvd80toFF 0xFF 0xFF 0xFF) := by
  decide

/-- The reset state of the reference build meets the invariant. -/
theorem reset_inv : base.Inv :=
  ⟨by decide, by decide, by decide, by decide, by decide, by decide, by decide, by decide⟩

/-- So does a block in deep sleep, in a build without and in one with TICK_IN_DEEP_SLEEP. -/
theorem asleep_inv :
    (asleep Config.Params.reference).Inv ∧ (asleep { Config.Params.reference with tickInDeepSleep := true }).Inv :=
  ⟨⟨by decide, by decide, by decide, by decide, by decide, by decide, by decide, by decide⟩,
    ⟨by decide, by decide, by decide, by decide, by decide, by decide, by decide, by decide⟩⟩

/-- So does a block that is running its peer, in the middle of a transaction and of a conversion. -/
def running : State :=
  { lines 0xFF 0 (fsm .mcuRunning .signaledOn true) with
    adc := (converting 0x03 1 true).adc
    spi := (counted .expectByte2).spi }

theorem running_inv : running.Inv :=
  ⟨by decide, by decide, by decide, by decide, by decide, by decide, by decide, by decide⟩

/-- An outcome that has a state is that state. -/
theorem exists_next {r : Result} (h : (after r).isSome = true) : ∃ t, r = .next t := by
  cases r with
  | next t => exact ⟨t, rfl⟩
  | fault _ => cases h
  | refused _ => cases h

theorem witness_EveryStepKeepsTheInvariant :
    (base.Inv ∧ ∃ t, step base = .next t) ∧ (running.Inv ∧ ∃ t, step running = .next t) :=
  ⟨⟨reset_inv, exists_next (by decide)⟩, ⟨running_inv, exists_next (by decide)⟩⟩

theorem witness_InvariantGivesTheReachableProperties :
    (base.Inv ∧ running.Inv ∧ (asleep Config.Params.reference).Inv) ∧ (∃ t, runEvent .fgPass running = .next t) ∧
    ∃ t, runEvent .fgPass (table 0x06 (Vector.replicate 8 0)) = .next t :=
  ⟨⟨reset_inv, running_inv, asleep_inv.1⟩, exists_next (by decide), exists_next (by decide)⟩

theorem witness_StepKeepsTheBuildAndTheScheduleTail :
    (∃ t, step (scheduled [.xfer 0x04 0 0]) = .next t) ∧ (∃ t, step (scheduled [.event (.tick true true)]) = .next t) ∧
    ∃ t, step base = .next t := ⟨exists_next (by decide), exists_next (by decide), exists_next (by decide)⟩

/-- The hypotheses of the six statements about the single commands: SETMASK, GETMASK, AUXTOG, GETVER, BOOTLD, GETHW. -/
theorem witness_CommandFramed :
    ((counted .expectAddress).BusReady ∧ (counted .expectAddress).Framed) ∧
    ((counted .reserved3).BusReady ∧ (counted .reserved3).Framed) := by decide

theorem witness_SetmaskWritesTheMaskAtWireByte2 : base.BusReady ∧ base.Framed := by decide
theorem witness_GetmaskAnswersTheMask : base.BusReady ∧ base.Framed := by decide
theorem witness_AuxtogRequestsTheToggleAtWireByte1 : base.BusReady ∧ base.Framed := by decide
theorem witness_GetverAnswersTheVersionPair : base.BusReady ∧ base.Framed := by decide
theorem witness_BootldRequestsTheBootloaderAtWireByte1 : base.BusReady ∧ base.Framed := by decide
theorem witness_GethwAnswersTheVariantFlag : base.BusReady ∧ base.Framed := by decide

theorem witness_GetadcAnswersTheSlotLowByteFirst :
    (distinct.BusReady ∧ distinct.Framed ∧ (7 : Chan).val < distinct.cfg.nCh) ∧
    ((State.resetWith smallest).BusReady ∧ (State.resetWith smallest).Framed ∧
      (0 : Chan).val < (State.resetWith smallest).cfg.nCh) := by decide

theorem witness_ReservedAddressAnswersZeros :
    (full.BusReady ∧ full.Framed ∧ (Instr.rsvd80toFF 0x80 0 0).wellFormed = true ∧
      reservedRow (.rsvd80toFF 0x80 0 0) = true) ∧
    (fourChannels.BusReady ∧ fourChannels.Framed ∧ (Instr.getadc4 1 2).wellFormed = true ∧
      fourChannels.cfg.nCh ≤ (4 : Chan).val ∧ Instr.getadc4 1 2 = getadcInstr 4 1 2) := by decide

theorem witness_EveryCommandCompletesInEveryPhaseAndItsFrame :
    ∀ s ∈ [counted .expectAddress, counted .expectByte2, counted .expectByte3, counted .reserved3],
      s.BusReady ∧ (Instr.setmask 0x03 0).wellFormed = true ∧ (Instr.rsvd20to3F 0x3F 1 2).wellFormed = true := by decide

theorem witness_CommandHasNoStepWhereTheBusHasNone :
    haltedState.spi.halted = true ∧ (busOff.spi.halted = false ∧ busOff.spi.enabled = false) := by decide

theorem witness_MaskRoundTrip : base.BusReady ∧ base.Framed := by decide

theorem witness_InterleavedEventsDoNotDisturbATransaction :
    base.Inv ∧ base.spi.phase = .expectAddress ∧
    (∀ e ∈ [Event.fgPass, .tick false true, .spiByte false 0x55], quiet e = true) ∧
    (∀ e ∈ [Event.fgPass, .adcDone 0x1234], quiet e = true) ∧
    ∃ t, runEvents ([.spiByte true 0x01] ++ [.fgPass, .tick false true, .spiByte false 0x55] ++ [.spiByte true 0x03] ++
      [.fgPass, .adcDone 0x1234] ++ [.spiByte true 0x00]) base = .next t :=
  ⟨reset_inv, rfl, by decide, by decide, exists_next (by decide)⟩

theorem witness_AddressByteLatchesBothResponses :
    ((counted .expectAddress).BusReady ∧ (counted .expectAddress).Framed) ∧
    ((counted .reserved3).BusReady ∧ (counted .reserved3).Framed) := by decide

theorem witness_SecondByteWritesTheMaskForSetmaskOnly :
    (counted .expectByte2).BusReady ∧ (counted .expectByte2).spi.phase = .expectByte2 := by decide

theorem witness_ThirdByteEndsTheTransaction :
    (counted .expectByte3).BusReady ∧ (counted .expectByte3).spi.phase = .expectByte3 := by decide

theorem witness_UnaddressedByteOnlySignalsTransfer :
    (counted .expectByte2).BusReady ∧ (busOff.spi.halted = false ∧ busOff.spi.enabled = false) := by decide

theorem witness_DeselectResetsOnlyTheProgressCounter :
    (counted .expectByte3).BusReady ∧ (busOff.spi.halted = false ∧ busOff.spi.enabled = false) := by decide

theorem witness_ToggleRequestsMerge :
    (∀ s ∈ [base, phased .lightSleep (fsm .adcNoiseExit .mcuRunning true)],
      s.BusReady ∧ s.Framed ∧ (s.power.fgPhase = .run ∨ s.power.fgPhase = .lightSleep) ∧
      suspends s.power.current = false) := by decide

theorem witness_CompletePassPerformsTheDeferredEffects :
    (running.PassReady ∧ suspends running.power.current = false ∧ running.power.current ≠ .powerDownExit) ∧
    (woken.PassReady ∧ suspends woken.power.current = false) := by decide

theorem witness_HaltedBlockHasNoStepButReset :
    haltedState.spi.halted = true ∧ Event.fgPass ≠ .reset ∧
    haltedState.schedule.head? ≠ some (.event .reset) ∧ haltedState.schedule.head? ≠ some .watchdog := by decide

theorem witness_LinesCarryTheirRegisters : running.spi.halted = false := by decide

theorem witness_TickShiftsFiltersAndCountsTimers :
    (base.cfg.Legal ∧ base.spi.halted = false ∧ base.power.fgPhase ≠ .deepSleep) ∧
    ((asleep { largest with tickInDeepSleep := true }).cfg.Legal ∧
      (asleep { largest with tickInDeepSleep := true }).spi.halted = false ∧
      (asleep { largest with tickInDeepSleep := true }).cfg.tickInDeepSleep = true) := by decide

theorem witness_FilterDecidesByWAgreeingSamples :
    (base.cfg.Legal ∧ base.spi.halted = false ∧ base.power.fgPhase ≠ .deepSleep ∧
      base.cfg.w ≤ (List.replicate 8 (false, true)).length) ∧
    ((State.resetWith smallest).cfg.Legal ∧ (State.resetWith smallest).spi.halted = false ∧
      (State.resetWith smallest).power.fgPhase ≠ .deepSleep ∧ (State.resetWith smallest).cfg.w ≤ [(true, false)].length) := by
  decide

theorem witness_AdcDoneStoresTheResult :
    ((converting 0 7 false).spi.halted = false ∧ (converting 0 7 false).adc.enabled = true ∧
      (converting 0 7 false).adc.currentChannel = some 7 ∧ (7 : Chan).val < (converting 0 7 false).cfg.nCh ∧
      (converting 0 7 false).adc.complete = false) ∧
    (armed.spi.halted = false ∧ armed.adc.enabled = false) ∧
    (base.spi.halted = false ∧ base.adc.currentChannel = none) ∧
    ((converting 1 0 true).spi.halted = false ∧ (converting 1 0 true).adc.complete = true) := by decide

theorem witness_CompletePassAdvancesTheSequencer :
    (∀ s ∈ [converting 0x80 7 true, converting 0x06 1 false, table 0x06 (Vector.replicate 8 5)],
      s.PassReady ∧ s.adc.enabled = true ∧ suspends s.power.current = false ∧ s.power.current ≠ .powerDownExit) ∧
    ((converting 0x80 7 true).adc.complete = true ∧ (converting 0x80 7 true).adc.currentChannel = some 7) ∧
    ((converting 0x06 1 false).adc.complete = false ∧ (converting 0x06 1 false).adc.currentChannel = some 1) ∧
    ((table 0x06 (Vector.replicate 8 5)).adc.complete = false ∧
      (table 0x06 (Vector.replicate 8 5)).adc.currentChannel = none) := by decide

/-- In `Wait`, with the conversion of channel 0 in flight and two channels requested. -/
def sampling : State := { timed 0 (-1) (-1) (fsm .wait .start false) with adc := (converting 0x03 0 false).adc }

theorem witness_RoundRobinVisitsEveryRequestedChannelOnce :
    (sampling.cfg.Legal ∧ sampling.PassReady ∧ sampling.power.current = .wait ∧ sampling.btn ≠ .asserted) ∧
    (sampling.timers.wakeup < sampling.cfg.wakeupTicks ∧ sampling.spi.bootReq = false ∧ sampling.adc.enabled = true) ∧
    (sampling.adc.complete = false ∧ sampling.adc.currentChannel = some 0) ∧
    (requested sampling.cfg sampling.adc.channelMask 0 = true ∧
      ([0x0155, 0x02AA] : List Sample).length =
        (channels.filter (requested sampling.cfg sampling.adc.channelMask)).length) := by decide

theorem witness_PassFollowsTheTransitionTable :
    (base.PassReady ∧ base.power.current ≠ .powerDownEntry ∧ ∃ r, rowTaken base = some r) ∧
    (sampling.PassReady ∧ sampling.power.current ≠ .powerDownEntry ∧ rowTaken sampling = none) ∧
    (∀ s ∈ [armed, phased .lightSleep (fsm .adcNoiseExit .mcuRunning true), asleep Config.Params.reference],
      s.spi.halted = false ∧ s.power.fgPhase ≠ .run) :=
  ⟨⟨by decide, by decide, Option.isSome_iff_exists.1 (by decide)⟩, ⟨by decide, by decide, Option.isNone_iff_eq_none.1 (by decide)⟩,
    by decide⟩

theorem witness_EntryStatesSetUpAndAdvance :
    ∀ S ∈ [PowerState.waitEntry, .buttonPress, .signaledOnEntry, .signaledOffEntry],
      (fsm S .mcuRunning true).PassReady ∧ (fsm S .mcuRunning true).power.current = S := by decide

theorem witness_PreviousRecordsTheSteadyStateLeft :
    (∃ t, runEvent .fgPass (timed 5000 (-1) (-1) (fsm .wait .start false)) = .next t) ∧ Event.fgPass ≠ .reset ∧
    (∃ t, runEvent .fgPass sampling = .next t) ∧ (∃ t, runEvent (.tick true true) sampling = .next t) :=
  ⟨exists_next (by decide), by decide, exists_next (by decide), exists_next (by decide)⟩

theorem witness_ReleasedPressIsClassified :
    (∀ S ∈ [PowerState.wait, .signaledOn, .mcuRunning, .signaledOff],
      (timed (-1) 200 (-1) (fsm .buttonRelease S true)).PassReady ∧
      (timed (-1) 200 (-1) (fsm .buttonRelease S true)).power.current = .buttonRelease ∧
      (timed (-1) 200 (-1) (fsm .buttonRelease S true)).btn = .released) ∧
    ((lines 0x7F 0xFF (fsm .buttonRelease .wait false)).PassReady ∧
      (lines 0x7F 0xFF (fsm .buttonRelease .wait false)).power.current = .buttonRelease ∧
      (lines 0x7F 0xFF (fsm .buttonRelease .wait false)).btn ≠ .released) := by decide

theorem witness_PowerDownEntryArmsAndSuspends :
    (fsm .powerDownEntry .signaledOff false).PassReady ∧
    (fsm .powerDownEntry .signaledOff false).power.current = .powerDownEntry := by decide

theorem witness_LightSleepEntrySuspends :
    (fsm .adcNoiseEntry .mcuRunning true).PassReady ∧ (fsm .adcNoiseEntry .mcuRunning true).power.current = .adcNoiseEntry := by
  decide

theorem witness_CheckThenSleepIsAtomic :
    (armed.spi.halted = false ∧ armed.power.fgPhase = .pdArmed) ∧
    (base.spi.halted = false ∧ base.power.fgPhase ≠ .pdArmed) := by decide

theorem witness_PowerDownExitResumes : woken.PassReady ∧ woken.power.current = .powerDownExit := by decide

theorem witness_UndefinedStateRecovers :
    (∀ n ∈ [(0 : Fin 14), 13],
      (fsm (.undefined n) .wait true).PassReady ∧ (fsm (.undefined n) .wait true).power.current = .undefined n ∧
      (fsm (.undefined n) .wait true).spi.bootReq = false) := by decide

theorem witness_WakeFlagsAndEndsTheDeepSleep :
    (armed.spi.halted = false ∧ armed.power.wakeArmed = true) ∧
    (base.spi.halted = false ∧ base.power.wakeArmed = false) := by decide

theorem witness_WakeBeforeTheCheckPreventsTheSleep :
    armed.spi.halted = false ∧ armed.power.fgPhase = .pdArmed ∧ armed.power.wakeArmed = true ∧
    (∀ e ∈ [Event.tick true true, .wake], e = .wake ∨ ∃ b q, e = .tick b q) ∧ Event.wake ∈ [Event.tick true true, .wake] := by
  decide

theorem witness_EveryInterruptEndsTheLightSleep :
    (phased .lightSleep (converting 1 0 false)).power.fgPhase = .lightSleep ∧
    (∃ t, runEvent (.tick true true) (phased .lightSleep (converting 1 0 false)) = .next t) ∧
    (∃ t, runEvent (.spiByte false 0) (phased .lightSleep (converting 1 0 false)) = .next t) ∧
    (∃ t, runEvent .spiDeselect (phased .lightSleep (converting 1 0 false)) = .next t) ∧
    (∃ t, runEvent (.adcDone 1) (phased .lightSleep (converting 1 0 false)) = .next t) :=
  ⟨by decide, exists_next (by decide), exists_next (by decide), exists_next (by decide), exists_next (by decide)⟩

theorem witness_DeepSleepIsFrozenUntilWake :
    ((asleep Config.Params.reference).Inv ∧ (asleep Config.Params.reference).spi.halted = false ∧
      (asleep Config.Params.reference).power.fgPhase = .deepSleep ∧
      (asleep Config.Params.reference).cfg.tickInDeepSleep = false ∧
      ∃ t, runEvent .reset (asleep Config.Params.reference) = .next t) ∧
    ((asleep { Config.Params.reference with tickInDeepSleep := true }).Inv ∧
      (asleep { Config.Params.reference with tickInDeepSleep := true }).spi.halted = false ∧
      (asleep { Config.Params.reference with tickInDeepSleep := true }).power.fgPhase = .deepSleep ∧
      (asleep { Config.Params.reference with tickInDeepSleep := true }).cfg.tickInDeepSleep = true ∧
      ∃ t, runEvent (.tick true true) (asleep { Config.Params.reference with tickInDeepSleep := true }) = .next t) :=
  ⟨⟨asleep_inv.1, rfl, rfl, rfl, exists_next (by decide)⟩, ⟨asleep_inv.2, rfl, rfl, rfl, exists_next (by decide)⟩⟩

/-- An outcome whose state satisfies a test. -/
theorem exists_next_of {r : Result} (p : State → Bool) (h : (after r).any p = true) : ∃ t, r = .next t ∧ p t = true := by
  cases r with
  | next t => exact ⟨t, rfl, h⟩
  | fault _ => cases h
  | refused _ => cases h

theorem witness_SupplyIsSwitchedOnlyByItsThreeDispatches :
    ((fsm .signaledOnEntry .wait false).power.powerEnable = false ∧
      ∃ t, runEvent .fgPass (fsm .signaledOnEntry .wait false) = .next t ∧ t.power.powerEnable = true) ∧
    ((fsm .mcuOffEntry .mcuRunning true).power.powerEnable = true ∧
      ∃ t, runEvent .fgPass (fsm .mcuOffEntry .mcuRunning true) = .next t ∧ (!t.power.powerEnable) = true) ∧
    ((fsm .waitEntry .start true).power.powerEnable = true ∧
      ∃ t, runEvent .fgPass (fsm .waitEntry .start true) = .next t ∧ (!t.power.powerEnable) = true) :=
  ⟨⟨rfl, exists_next_of (·.power.powerEnable) (by decide)⟩, ⟨rfl, exists_next_of (fun t => !t.power.powerEnable) (by decide)⟩,
    ⟨rfl, exists_next_of (fun t => !t.power.powerEnable) (by decide)⟩⟩

/-- A shutdown was requested, and the power FSM is in `S`. -/
def closing (S : PowerState) : State :=
  { base with
    power := { base.power with current := S, previous := .mcuRunning, powerEnable := true, shutdownRequest := true } }

theorem witness_ShutdownIsRequestedOnlyByItsDispatches :
    ((fsm .signaledOffEntry .mcuRunning true).power.shutdownRequest = false ∧
      ∃ t, runEvent .fgPass (fsm .signaledOffEntry .mcuRunning true) = .next t ∧ t.power.shutdownRequest = true) ∧
    ((closing .signaledOff).power.shutdownRequest = true ∧
      ∃ t, runEvent .fgPass (closing .signaledOff) = .next t ∧ (!t.power.shutdownRequest) = true) ∧
    ((closing .waitEntry).power.shutdownRequest = true ∧
      ∃ t, runEvent .fgPass (closing .waitEntry) = .next t ∧ (!t.power.shutdownRequest) = true) :=
  ⟨⟨rfl, exists_next_of (·.power.shutdownRequest) (by decide)⟩,
    ⟨rfl, exists_next_of (fun t => !t.power.shutdownRequest) (by decide)⟩,
    ⟨rfl, exists_next_of (fun t => !t.power.shutdownRequest) (by decide)⟩⟩

theorem witness_OnlyTheListedEventsWriteARegister :
    (∃ t, runEvent .fgPass running = .next t) ∧ (∃ t, runEvent (.tick false false) running = .next t) ∧
    (∃ t, runEvent (.spiByte true 0x0F) running = .next t) ∧ (∃ t, runEvent .wake armed = .next t) ∧
    (∃ t, runEvent .fgPdSleep armed = .next t) ∧ Event.fgPass ≠ .reset ∧ Event.wake ≠ .reset :=
  ⟨exists_next (by decide), exists_next (by decide), exists_next (by decide), exists_next (by decide),
    exists_next (by decide), by decide, by decide⟩

theorem witness_WatchdogResetsWhereItsPolicyFires :
    (scheduled [.watchdog, .event .fgPass]).schedule = .watchdog :: [.event .fgPass] ∧
    (base.sinceKick = some 0 ∧ Event.fgPdSleep ∉ [Event.fgPass, .spiByte true 0x04] ∧
      0 + ticksIn [.fgPass, .spiByte true 0x04] ≤ Config.wdtPeriod ∧
      ∃ t, runEvents [.fgPass, .spiByte true 0x04] base = .next t ∧ (!t.spi.halted) = true) :=
  ⟨rfl, rfl, by decide, Nat.zero_le _, exists_next_of (fun t => !t.spi.halted) (by decide)⟩

end Sys2Proof.Tests
end

/-! Proofs: the searches of the sequencer (spec/41_adc_sequencer.md R121, R122): what each answers, and the two
statements about them. -/

namespace Sys2Proof.Machine

theorem firstChannel_some_iff {p : Config.Params} {m : Byte} {k : Chan} :
    firstChannel p m = some k ↔ requested p m k = true ∧ ∀ j : Chan, j < k → requested p m j = false :=
  find_channels_some _ k

/-! ## The search above a channel -/

/-- The first loop of R122: the least requested channel strictly after c. -/
def firstAbove (p : Config.Params) (m : Byte) (c : Chan) : Option Chan :=
  channels.find? fun k => decide (c < k) && requested p m k

theorem firstAbove_some_iff {p : Config.Params} {m : Byte} {c k : Chan} :
    firstAbove p m c = some k ↔
      requested p m k = true ∧ c < k ∧ ∀ j : Chan, c < j → j < k → requested p m j = false := by
  rw [firstAbove, find_channels_some]
  simp only [Bool.and_eq_true, decide_eq_true_eq, Bool.and_eq_false_imp, and_assoc, and_left_comm (a := c < k)]
  exact and_congr_right' (and_congr_right' (forall_congr' fun _ => forall_comm))

theorem firstAbove_none_iff {p : Config.Params} {m : Byte} {c : Chan} :
    firstAbove p m c = none ↔ ∀ j : Chan, c < j → requested p m j = false := by
  rw [firstAbove, find_channels_none]
  simp only [Bool.and_eq_false_imp, decide_eq_true_eq]

/-! ## The successor -/

/-- The two loops of R122, the second one run where the first finds nothing. -/
theorem nextChannel_eq_or (p : Config.Params) (m : Byte) (c : Chan) :
    nextChannel p m c = (firstAbove p m c).or (firstChannel p m) := by
  rw [nextChannel, ← firstAbove]
  cases firstAbove p m c <;> rfl

theorem nextChannel_some_iff {p : Config.Params} {m : Byte} {c k : Chan} :
    nextChannel p m c = some k ↔
      requested p m k = true ∧
      ((c < k ∧ ∀ j : Chan, c < j → j < k → requested p m j = false) ∨
       ((∀ j : Chan, c < j → requested p m j = false) ∧ ∀ j : Chan, j < k → requested p m j = false)) := by
  rw [nextChannel_eq_or, Option.or_eq_some_iff, firstAbove_some_iff, firstAbove_none_iff, firstChannel_some_iff,
    and_left_comm (b := requested p m k = true), ← and_or_left]

/-- There is no successor exactly where the second loop finds nothing: it looks at every channel. -/
theorem nextChannel_none_iff {p : Config.Params} {m : Byte} {c : Chan} :
    nextChannel p m c = none ↔ ∀ j : Chan, requested p m j = false := by
  rw [nextChannel_eq_or, Option.or_eq_none_iff, firstAbove_none_iff, firstChannel_none_iff]
  exact and_iff_right_of_imp fun h j _ => h j

/-! ## The statements -/

/-- Settles O41: the successor is what the loop above c finds, else what `first_channel` finds. -/
theorem nextChannelIsTheCyclicSuccessor : Obligations.NextChannelIsTheCyclicSuccessor := by
  intro p m c k
  simp only [← requested_iff, Bool.not_eq_true]
  exact ⟨nextChannel_some_iff, nextChannel_none_iff⟩

/-- Settles O40: `find?` over the channels, which stand in ascending order, answers the least requested one. -/
theorem firstChannelIsTheLeastRequested : Obligations.FirstChannelIsTheLeastRequested := by
  intro p m
  simp only [← requested_iff, Bool.not_eq_true]
  exact ⟨fun _ => firstChannel_some_iff, firstChannel_none_iff⟩

end Sys2Proof.Machine

/-! Proofs: passes of the power FSM (spec/43_power_fsm.md R180 to R188, R195, R215): what a ready foreground does in a
pass, and the two statements about the entry states and the undefined ones. -/

namespace Sys2Proof.Machine

/-! ## The sequencer's part of a pass -/

/-- What a pass of the sequencer leaves in its registers (R126). -/
theorem State.adcPass_adc (s : State) :
    s.adcPass.adc =
      if s.adc.enabled then
        if s.adc.complete then { s.adc with complete := false, currentChannel := s.successor }
        else
          { s.adc with
            value := zeroUnrequested s.cfg s.adc.channelMask s.adc.value
            currentChannel := s.adc.currentChannel.or (firstChannel s.cfg s.adc.channelMask) }
      else s.adc := by
  rcases s.adcPass_cases with ⟨he, h⟩ | ⟨he, hc, h⟩ | ⟨he, hc, hk, h⟩ | ⟨he, hc, hk, h⟩
  · simp [h, he]
  · simp [h, he, hc]
  · obtain ⟨k, hk⟩ := Option.ne_none_iff_exists'.1 hk
    simp [h, he, hc, hk, State.adcZero]
  · simp [h, he, hc, hk, State.adcZero]

/-- The sequencer reads the build and its own registers only. -/
theorem State.adcPass_adc_congr {s t : State} (hcfg : s.cfg = t.cfg) (hadc : s.adc = t.adc) :
    s.adcPass.adc = t.adcPass.adc := by
  have hsucc : s.successor = t.successor := by rw [State.successor, State.successor, hcfg, hadc]
  rw [s.adcPass_adc, t.adcPass_adc, hsucc, hcfg, hadc]

/-! ## The dispatches that test neither a line nor a timer -/

/-- `goto` out of a state that is not steady writes `current` alone (R182). -/
theorem State.goto_of_not_steady {s : State} (S : PowerState) (h : s.power.current.steady = false) :
    s.goto S = { s with power := { s.power with current := S } } := by
  simp [State.goto, PowerRegs.goto, h]

theorem dispatch_of_start {s : State} (h : s.power.current = .start) :
    dispatch s = { s with power := { s.power with current := .waitEntry }, timers := TimerRegs.stopped } := by
  rw [dispatch, h]
  exact State.goto_of_not_steady _ (congrArg PowerState.steady h)

theorem dispatch_of_waitEntry {s : State} (h : s.power.current = .waitEntry) :
    dispatch s =
      { s with
        power := { s.power with current := .wait, powerEnable := false, shutdownRequest := false }
        timers := { s.timers with wakeup := 0 } } := by
  rw [dispatch, h]
  exact State.goto_of_not_steady _ (congrArg PowerState.steady h)

theorem dispatch_of_buttonPress {s : State} (h : s.power.current = .buttonPress) :
    dispatch s =
      { s with power := { s.power with current := .buttonRelease }, timers := { s.timers with button := 0 } } := by
  rw [dispatch, h]
  exact State.goto_of_not_steady _ (congrArg PowerState.steady h)

theorem dispatch_of_signaledOnEntry {s : State} (h : s.power.current = .signaledOnEntry) :
    dispatch s =
      { s with
        power := { s.power with current := .signaledOn, powerEnable := true }
        timers := { s.timers with wakeup := -1 } } := by
  rw [dispatch, h]
  exact State.goto_of_not_steady _ (congrArg PowerState.steady h)

theorem dispatch_of_signaledOffEntry {s : State} (h : s.power.current = .signaledOffEntry) :
    dispatch s = { s with power := { s.power with current := .signaledOff, shutdownRequest := true } } := by
  rw [dispatch, h]
  exact State.goto_of_not_steady _ (congrArg PowerState.steady h)

theorem dispatch_of_undefined {s : State} {n : Fin 14} (h : s.power.current = .undefined n) :
    dispatch s = { s with power := { s.power with current := .start } } := by
  rw [dispatch, h]
  rfl

/-! ## A pass of a ready foreground -/

theorem State.PassReady.fgPass_step {s : State} (hs : s.PassReady) : runEvent .fgPass s = .next s.foregroundPass :=
  runEvent_fgPass_iff.2 ⟨hs.1, hs.2, rfl⟩

/-- A ready foreground's pass answers the FSM registers and the timers of its dispatch (R180). -/
theorem State.PassReady.fgPass_of_dispatch {s d : State} (hs : s.PassReady) (hd : dispatch s = d) :
    ∃ t, runEvent .fgPass s = .next t ∧ t.power = d.power ∧ t.timers = d.timers :=
  ⟨s.foregroundPass, hs.fgPass_step, hd ▸ s.foregroundPass_power, hd ▸ s.foregroundPass_timers⟩

theorem State.PassReady.dispatch_fgPhase {s : State} (hs : s.PassReady) (hc : suspends s.power.current = false) :
    (dispatch s).power.fgPhase = .run := by
  rw [Machine.dispatch_fgPhase]
  split
  · next h => simp [h, suspends] at hc
  · next h => simp [h, suspends] at hc
  · exact hs.2

/-- A dispatch that does not suspend the foreground is followed by the rest of the pass (R180). -/
theorem State.PassReady.foregroundPass_eq {s : State} (hs : s.PassReady) (hc : suspends s.power.current = false) :
    s.foregroundPass = (dispatch s).finishPass :=
  if_pos (hs.dispatch_fgPhase hc)

/-- A pass neither records nor drops a bootloader request (R161). -/
theorem State.foregroundPass_bootReq (s : State) : s.foregroundPass.spi.bootReq = s.spi.bootReq := by
  rcases s.foregroundPass_cases with ⟨_, h⟩ | ⟨_, h⟩ <;> simp [h]

/-- After a complete pass the foreground is ready for the next one, unless the bootloader was requested (R161, R157). -/
theorem State.PassReady.foregroundPass_passReady {s : State} (hs : s.PassReady) (hc : suspends s.power.current = false)
    (hb : s.spi.bootReq = false) : s.foregroundPass.PassReady := by
  refine ⟨?_, s.foregroundPass_power ▸ hs.dispatch_fgPhase hc⟩
  simp [hs.foregroundPass_eq hc, hb, hs.1]

/-- `Start` and then `WaitEntry`: two passes from `Start` leave the supply off in `Wait` (R183, R184). -/
theorem State.PassReady.two_passes_from_start {s : State} (hs : s.PassReady) (hc : s.power.current = .start)
    (hb : s.spi.bootReq = false) :
    ∃ u, runEvents [.fgPass, .fgPass] s = .next u ∧ u.power.powerEnable = false ∧ u.power.current = .wait := by
  have ht : s.foregroundPass.PassReady := hs.foregroundPass_passReady (by rw [hc]; rfl) hb
  have htc : s.foregroundPass.power.current = .waitEntry := by rw [s.foregroundPass_power, dispatch_of_start hc]
  obtain ⟨u, hu, hpower, -⟩ := ht.fgPass_of_dispatch (dispatch_of_waitEntry htc)
  exact ⟨u, by simp [hs.fgPass_step, hu], by rw [hpower], by rw [hpower]⟩

/-! ## The statements -/

/-- Settles O52: the recovery writes `current` alone and does not suspend the pass; from `Start` two passes more switch the
supply off. -/
theorem undefinedStateRecovers : Obligations.UndefinedStateRecovers := by
  intro s n hs hc
  have hd := dispatch_of_undefined hc
  have hsus : suspends s.power.current = false := by rw [hc]; rfl
  have hpass := hs.foregroundPass_eq hsus
  have hpower : s.foregroundPass.power = { s.power with current := .start } := by rw [s.foregroundPass_power, hd]
  refine ⟨s.foregroundPass, hs.fgPass_step, hpower, ?timers, s.foregroundPass_debounce, ?adc, ?spi, fun hb => ?passes⟩
  case timers => rw [s.foregroundPass_timers, hd]
  case adc => rw [hpass, State.finishPass_adc]; exact State.adcPass_adc_congr (by simp) (by rw [hd])
  case spi => rw [hpass, State.finishPass_spi, State.spiPass_spi, hd]
  case passes =>
    exact (hs.foregroundPass_passReady hsus hb).two_passes_from_start (by rw [hpower]) (s.foregroundPass_bootReq.trans hb)

/-- Settles O45: the four dispatches test nothing, and none of the four states is steady, so `previous` stays. -/
theorem entryStatesSetUpAndAdvance : Obligations.EntryStatesSetUpAndAdvance := fun _ hs =>
  ⟨fun hc => hs.fgPass_of_dispatch (dispatch_of_waitEntry hc),
    fun hc => hs.fgPass_of_dispatch (dispatch_of_buttonPress hc),
    fun hc => hs.fgPass_of_dispatch (dispatch_of_signaledOnEntry hc),
    fun hc => hs.fgPass_of_dispatch (dispatch_of_signaledOffEntry hc)⟩

end Sys2Proof.Machine

/-! Proofs: the encoding (spec/30_encoding.md R80 to R93): what a command does with its operand bytes is factored out of the
decoder, so that the rest is a fact about the 256 address bytes. -/

namespace Sys2Proof

/-! ## The operand bytes -/

/-- The instruction with other wire bytes 2 and 3. -/
def Instr.withData (d p : Byte) : Instr → Instr
  | .setmask _ _ => .setmask d p
  | .getmask _ _ => .getmask d p
  | .auxtog _ _ => .auxtog d p
  | .getver _ _ => .getver d p
  | .bootld _ _ => .bootld d p
  | .gethw _ _ => .gethw d p
  | .getadc0 _ _ => .getadc0 d p
  | .getadc1 _ _ => .getadc1 d p
  | .getadc2 _ _ => .getadc2 d p
  | .getadc3 _ _ => .getadc3 d p
  | .getadc4 _ _ => .getadc4 d p
  | .getadc5 _ _ => .getadc5 d p
  | .getadc6 _ _ => .getadc6 d p
  | .getadc7 _ _ => .getadc7 d p
  | .rsvd00 _ _ => .rsvd00 d p
  | .rsvd07 _ _ => .rsvd07 d p
  | .rsvd08to0F a _ _ => .rsvd08to0F a d p
  | .rsvd18to1F a _ _ => .rsvd18to1F a d p
  | .rsvd20to3F a _ _ => .rsvd20to3F a d p
  | .rsvd40to7F a _ _ => .rsvd40to7F a d p
  | .rsvd80toFF a _ _ => .rsvd80toFF a d p

@[simp] theorem Instr.address_withData (d p : Byte) (i : Instr) : (i.withData d p).address = i.address := by cases i <;> rfl
@[simp] theorem Instr.data_withData (d p : Byte) (i : Instr) : (i.withData d p).data = (d, p) := by cases i <;> rfl
@[simp] theorem Instr.wellFormed_withData (d p : Byte) (i : Instr) : (i.withData d p).wellFormed = i.wellFormed := by
  cases i <;> rfl
@[simp] theorem Machine.rowOf_withData (d p : Byte) (i : Instr) : Machine.rowOf (i.withData d p) = Machine.rowOf i := by
  cases i <;> rfl

/-- The decoder chooses by the address byte alone (R81, R84). -/
theorem decodeXfer_eq_withData (a d p : Byte) : decodeXfer a d p = (decodeXfer a 0 0).withData d p := by
  simp only [decodeXfer, apply_ite (Instr.withData d p)]
  rfl

theorem encode_decodeXfer (a d p : Byte) : encode (decodeXfer a d p) = [a, d, p] := by
  have h : ∀ a : Byte, (decodeXfer a 0 0).address = a := by decide
  rw [decodeXfer_eq_withData, encode, Instr.address_withData, Instr.data_withData, h]

theorem decodeXfer_wellFormed (a d p : Byte) : (decodeXfer a d p).wellFormed = true := by
  have h : ∀ a : Byte, (decodeXfer a 0 0).wellFormed = true := by decide
  rw [decodeXfer_eq_withData, Instr.wellFormed_withData, h]

/-- A row of one address is found by its address; a row of a range by each address of the range. -/
theorem decodeXfer_encode (i : Instr) (h : i.wellFormed = true) : decodeXfer i.address i.data.1 i.data.2 = i := by
  cases i with
  | rsvd08to0F a d p =>
    have h08 : ∀ a : Byte, 0x08 ≤ a ∧ a ≤ 0x0F → decodeXfer a 0 0 = .rsvd08to0F a 0 0 := by decide
    exact (decodeXfer_eq_withData a d p).trans (congrArg _ (h08 a (of_decide_eq_true h)))
  | rsvd18to1F a d p =>
    have h18 : ∀ a : Byte, 0x18 ≤ a ∧ a ≤ 0x1F → decodeXfer a 0 0 = .rsvd18to1F a 0 0 := by decide
    exact (decodeXfer_eq_withData a d p).trans (congrArg _ (h18 a (of_decide_eq_true h)))
  | rsvd20to3F a d p =>
    have h20 : ∀ a : Byte, 0x20 ≤ a ∧ a ≤ 0x3F → decodeXfer a 0 0 = .rsvd20to3F a 0 0 := by decide
    exact (decodeXfer_eq_withData a d p).trans (congrArg _ (h20 a (of_decide_eq_true h)))
  | rsvd40to7F a d p =>
    have h40 : ∀ a : Byte, 0x40 ≤ a ∧ a ≤ 0x7F → decodeXfer a 0 0 = .rsvd40to7F a 0 0 := by decide
    exact (decodeXfer_eq_withData a d p).trans (congrArg _ (h40 a (of_decide_eq_true h)))
  | rsvd80toFF a d p =>
    have h80 : ∀ a : Byte, 0x80 ≤ a → decodeXfer a 0 0 = .rsvd80toFF a 0 0 := by decide
    exact (decodeXfer_eq_withData a d p).trans (congrArg _ (h80 a (of_decide_eq_true h)))
  | _ => rfl

theorem decode_of_length_lt (bs : List Byte) (h : bs.length < 3) : decode bs = .error (.cutOff bs.length) := by
  match bs, h with
  | [], _ => rfl
  | [_], _ => rfl
  | [_, _], _ => rfl

end Sys2Proof

namespace Sys2Proof.Machine

/-! ## The opcode table -/

/-- No row of the table looks at the operand bytes (R81). -/
theorem opcodeTable_mask_free : ∀ r ∈ opcodeTable, r.mask.setWidth 16 = 0 := by decide

/-- Above the low byte an appended word holds the bits of its upper part. -/
theorem getLsbD_append_high {v w : Nat} (x : BitVec v) (y : BitVec w) {i : Nat} (h : ¬i < w) :
    (x ++ y).getLsbD i = x.getLsbD (i - w) := by
  rw [BitVec.getLsbD_append, if_neg h]

/-- A mask that leaves the operand bytes free sees the address byte alone. -/
theorem word_and_mask (a d p : Byte) {mask : BitVec 24} (h : mask.setWidth 16 = 0) :
    (a ++ d ++ p : BitVec 24) &&& mask = (a ++ (0 : BitVec 16) : BitVec 24) &&& mask := by
  apply BitVec.eq_of_getLsbD_eq
  intro i _
  rw [BitVec.getLsbD_and, BitVec.getLsbD_and]
  by_cases hlow : i < 16
  · have hbit : mask.getLsbD i = false := by simpa [hlow] using congrArg (·.getLsbD i) h
    rw [hbit, Bool.and_false, Bool.and_false]
  · have hword : (a ++ d ++ p).getLsbD i = a.getLsbD (i - 16) := by
      rw [show i - 16 = i - 8 - 8 by omega]
      exact (getLsbD_append_high (a ++ d) p (by omega)).trans (getLsbD_append_high a d (by omega))
    exact congrArg (· && mask.getLsbD i) (hword.trans (getLsbD_append_high a 0 hlow).symm)

/-- The rows of the table an address byte meets. -/
def rowsMet (a : Byte) : List OpcodeRow :=
  opcodeTable.filter fun r => decide ((a ++ (0 : BitVec 16) : BitVec 24) &&& r.mask = r.value)

theorem rowsMet_mnemonic : ∀ a : Byte, (rowsMet a).map (·.mnemonic) = [rowOf (decodeXfer a 0 0)] := by decide

theorem filter_word_eq_rowsMet (a d p : Byte) :
    (opcodeTable.filter fun r => decide ((a ++ d ++ p : BitVec 24) &&& r.mask = r.value)) = rowsMet a :=
  List.filter_congr fun r hr => by rw [word_and_mask a d p (opcodeTable_mask_free r hr)]

/-! ## The statements -/

/-- Settles O3: the decoder finds the row the address byte names, and the operands are carried through. -/
theorem decodeOfEncodeIsTheInstruction : Obligations.DecodeOfEncodeIsTheInstruction := by
  intro i rest h
  exact (decode_three i.address i.data.1 i.data.2 rest).trans (by rw [decodeXfer_encode i h])

/-- Settles O4: the decoder carries the operands through and keeps the address byte. -/
theorem encodeOfDecodeIsTheBytes : Obligations.EncodeOfDecodeIsTheBytes :=
  ⟨fun a d p => ⟨decodeXfer_wellFormed a d p, encode_decodeXfer a d p⟩, decode_of_length_lt⟩

/-- Settles O5: no row looks below the address byte, and of each address byte exactly one row is met. -/
theorem everyWordMatchesExactlyItsRow : Obligations.EveryWordMatchesExactlyItsRow := by
  intro a d p
  rw [filter_word_eq_rowsMet, rowsMet_mnemonic, decodeXfer_eq_withData a d p, rowOf_withData]

/-- Settles O6: the nine words are run through the decoder. -/
theorem writtenWordsDecodeToTheirCommands : Obligations.WrittenWordsDecodeToTheirCommands := by
  unfold Obligations.WrittenWordsDecodeToTheirCommands
  decide

theorem PowerState.ofCode_code (S : PowerState) : PowerState.ofCode S.code = S := by
  cases S with
  | undefined n => revert n; decide
  | _ => rfl

/-- Settles O7: a code of 5 bits names a state or one of the fourteen values above them. -/
theorem enumeratedRegistersHaveTheirCodes : Obligations.EnumeratedRegistersHaveTheirCodes :=
  ⟨PowerState.ofCode_code, by decide, by decide, by decide, by decide⟩

end Sys2Proof.Machine

/-! Proofs: the dispatch against the transition table (spec/43_power_fsm.md R201): in every state but `PowerDownEntry` the
dispatch writes what the first row says whose condition holds. -/

namespace Sys2Proof.Machine

/-! ## The rows of one state -/

/-- The rows of the table that leave a state, in the table's order. -/
def rowsFrom (S : PowerState) : List TransitionRow := transitionTable.filter fun r => decide (r.source = S)

theorem rowTaken_eq {s : State} {S : PowerState} (h : s.power.current = S) :
    rowTaken s = (rowsFrom S).find? (·.condition s) := by
  rw [rowsFrom, List.find?_filter, rowTaken, h]
  simp only [Bool.decide_and, Bool.decide_eq_true]

theorem rowsFrom_named {S : PowerState} (h : S.unnamed = false) :
    rowsFrom S = (waitRows ++ onRows ++ offRows.take 5).filter fun r => decide (r.source = S) := by
  cases S with
  | undefined n => cases h
  | _ => rfl

theorem rowsFrom_undefined (n : Fin 14) :
    rowsFrom (.undefined n) = [{ source := .undefined n, condition := always, target := .start }] := by
  fin_cases n <;> rfl

/-- What a pass does to the registers of the table: what the row taken says, or nothing where there is none. -/
def Follows (row : Option TransitionRow) (s t : State) : Prop :=
  match row with
  | some r => r.TakenFrom s t
  | none => t.power = s.power ∧ t.timers = s.timers

/-! ## The states that test a line or a timer -/

section
variable {s : State}

theorem dispatchWait_follows (h : s.power.current = .wait) : Follows (rowTaken s) s (dispatchWait s) := by
  rw [rowTaken_eq h, rowsFrom_named rfl]
  by_cases hb : s.btn = .asserted <;> by_cases ht : (s.cfg.wakeupTicks : Int) ≤ s.timers.wakeup <;>
    simp [waitRows, onRows, offRows, dispatchWait, expired, hb, ht, Follows, TransitionRow.TakenFrom,
      PowerState.steady, h]

theorem dispatchSignaledOn_follows (h : s.power.current = .signaledOn) :
    Follows (rowTaken s) s (dispatchSignaledOn s) := by
  rw [rowTaken_eq h, rowsFrom_named rfl]
  by_cases hq : s.peer = .asserted <;> by_cases hb : s.btn = .asserted <;>
    simp [waitRows, onRows, offRows, dispatchSignaledOn, hb, hq, Follows, TransitionRow.TakenFrom,
      PowerState.steady, h]

theorem dispatchMcuRunningEntry_follows (h : s.power.current = .mcuRunningEntry) :
    Follows (rowTaken s) s (dispatchMcuRunningEntry s) := by
  rw [rowTaken_eq h, rowsFrom_named rfl]
  by_cases hi : s.cfg.idleEnable <;>
    simp [waitRows, onRows, offRows, List.find?_cons, dispatchMcuRunningEntry, hi, always, Follows,
      TransitionRow.TakenFrom, PowerState.steady, h]

theorem dispatchMcuRunning_follows (h : s.power.current = .mcuRunning) :
    Follows (rowTaken s) s (dispatchMcuRunning s) := by
  rw [rowTaken_eq h, rowsFrom_named rfl]
  by_cases hb : s.btn = .asserted <;> by_cases hq : s.peer = .released <;>
    by_cases hi : s.cfg.idleEnable <;> by_cases ht : (s.cfg.idleTicks : Int) ≤ s.timers.idle <;>
    simp [waitRows, onRows, offRows, dispatchMcuRunning, expired, hb, hq, hi, ht, Follows,
      TransitionRow.TakenFrom, PowerState.steady, h]

theorem dispatchSignaledOff_follows (h : s.power.current = .signaledOff) :
    Follows (rowTaken s) s (dispatchSignaledOff s) := by
  rw [rowTaken_eq h, rowsFrom_named rfl]
  by_cases hq : s.peer = .released <;>
    simp [waitRows, onRows, offRows, dispatchSignaledOff, hq, Follows, TransitionRow.TakenFrom,
      PowerState.steady, h]

/-- A release is followed by the row of the press's context and length, or by the last row where the context is none of the
three (R187). -/
theorem dispatchButtonRelease_follows (h : s.power.current = .buttonRelease) :
    Follows (rowTaken s) s (dispatchButtonRelease s) := by
  rw [rowTaken_eq h, rowsFrom_named rfl]
  by_cases hb : s.btn = .released
  · by_cases ht : (s.cfg.buttonHoldTicks : Int) ≤ s.timers.button <;> cases hp : s.power.previous <;>
      simp [waitRows, onRows, offRows, dispatchButtonRelease, releasedPress, pressTarget, expired, hb, ht,
        hp, Follows, TransitionRow.TakenFrom, PowerState.steady, h]
  · simp [waitRows, onRows, offRows, dispatchButtonRelease, releasedPress, hb, Follows]

end

/-! ## All states -/

/-- The states that test something have their own lemmas; the others have one row, which always applies. -/
theorem dispatch_follows {s : State} (hc : s.power.current ≠ .powerDownEntry) : Follows (rowTaken s) s (dispatch s) := by
  rw [dispatch]
  cases h : s.power.current with
  | powerDownEntry => exact absurd h hc
  | wait => exact dispatchWait_follows h
  | buttonRelease => exact dispatchButtonRelease_follows h
  | signaledOn => exact dispatchSignaledOn_follows h
  | mcuRunningEntry => exact dispatchMcuRunningEntry_follows h
  | mcuRunning => exact dispatchMcuRunning_follows h
  | signaledOff => exact dispatchSignaledOff_follows h
  | undefined n =>
    rw [rowTaken_eq h, rowsFrom_undefined]
    simp [Follows, always, TransitionRow.TakenFrom, dispatchUndefined, PowerState.steady]
  | _ =>
    rw [rowTaken_eq h, rowsFrom_named rfl]
    simp [waitRows, onRows, offRows, always, Follows, TransitionRow.TakenFrom, PowerState.steady, h, dispatchStart,
      dispatchWaitEntry, dispatchButtonPress, dispatchSignaledOnEntry, dispatchIdleEntry, dispatchAdcNoiseEntry,
      dispatchAdcNoiseExit, dispatchSignaledOffEntry, dispatchMcuOffEntry, dispatchMcuOff, dispatchPowerDownExit,
      PowerRegs.disarmWake, TimerRegs.stopped]

end Sys2Proof.Machine

/-! Proofs: what the table says of every dispatch (spec/43_power_fsm.md R182, R201, R204), by a look at its rows, and what
a dispatch does to the wake source. -/

namespace Sys2Proof.Machine

/-! ## Facts of the rows -/

theorem transitionTable_moves : ∀ r ∈ transitionTable, r.target ≠ r.source := by decide

theorem transitionTable_target_ne_powerDownExit : ∀ r ∈ transitionTable, r.target ≠ .powerDownExit := by decide

theorem transitionTable_powerEnable_on :
    ∀ r ∈ transitionTable, r.powerEnable = some true → r.source = .signaledOnEntry := by decide

theorem transitionTable_powerEnable_off :
    ∀ r ∈ transitionTable, r.powerEnable = some false → r.source = .waitEntry ∨ r.source = .mcuOffEntry := by decide

theorem transitionTable_shutdownRequest_on :
    ∀ r ∈ transitionTable, r.shutdownRequest = some true → r.source = .signaledOffEntry := by decide

theorem transitionTable_shutdownRequest_off :
    ∀ r ∈ transitionTable, r.shutdownRequest = some false → r.source = .waitEntry ∨ r.source = .signaledOff := by decide

/-- A row writes a timer only to arm it anew or to disarm it. -/
theorem transitionTable_timers :
    ∀ r ∈ transitionTable, (∀ t ∈ r.wakeup, t = 0 ∨ t = -1) ∧ (∀ t ∈ r.button, t = 0 ∨ t = -1) ∧
      (∀ t ∈ r.idle, t = 0 ∨ t = -1) := by decide

/-! ## The dispatch by its row -/

/-- A dispatch takes a row of the state it is in, or leaves the FSM registers and the timers as they are. -/
theorem dispatch_row {s : State} (hc : s.power.current ≠ .powerDownEntry) :
    (∃ r ∈ transitionTable, r.source = s.power.current ∧ r.TakenFrom s (dispatch s)) ∨
    ((dispatch s).power = s.power ∧ (dispatch s).timers = s.timers) := by
  have h := dispatch_follows hc
  cases hrow : rowTaken s with
  | none => exact .inr (by simpa only [hrow, Follows] using h)
  | some r =>
    have hsrc := List.find?_some hrow
    simp only [Bool.and_eq_true, decide_eq_true_eq] at hsrc
    exact .inl ⟨r, List.mem_of_find?_eq_some hrow, hsrc.1, by simpa only [hrow, Follows] using h⟩

/-- The first half of `PowerDownEntry` writes neither `current` nor `previous`, nor an output, nor a timer (R199). -/
theorem dispatch_of_powerDownEntry {s : State} (h : s.power.current = .powerDownEntry) :
    dispatch s =
      { s with
        power := { s.power with wakePending := false, wakeArmed := true, fgPhase := .pdArmed }
        adc := { s.adc with enabled := false }
        spi := { s.spi with enabled := false } } := by
  rw [dispatch, h]
  rfl

theorem dispatch_of_adcNoiseEntry {s : State} (h : s.power.current = .adcNoiseEntry) :
    dispatch s = { s with power := { s.power with current := .adcNoiseExit, fgPhase := .lightSleep } } := by
  rw [dispatch, h]
  rfl

theorem dispatch_of_powerDownExit {s : State} (h : s.power.current = .powerDownExit) :
    dispatch s =
      { s with
        power := { s.power with current := .waitEntry, wakeArmed := false, wakePending := false }
        timers := { s.timers with wakeup := 0 }
        adc := { s.adc with enabled := true, currentChannel := none, complete := false }
        spi := { s.spi with enabled := true, phase := .expectAddress } } := by
  rw [dispatch, h]
  exact State.goto_of_not_steady _ (congrArg PowerState.steady h)

/-- `previous` records a steady state when the dispatch leaves it (R182, D12). -/
theorem dispatch_previous (s : State) :
    (dispatch s).power.previous =
      if (dispatch s).power.current ≠ s.power.current ∧ s.power.current.steady = true then s.power.current
      else s.power.previous := by
  by_cases hc : s.power.current = .powerDownEntry
  · simp [dispatch_of_powerDownEntry hc]
  · rcases dispatch_row hc with ⟨r, hr, hsrc, htarget, hprevious, -⟩ | ⟨hpower, -⟩
    · have hmoves := transitionTable_moves r hr
      rw [hprevious, htarget, ← hsrc]
      simp [hmoves]
    · simp [hpower]

/-- A timer after a dispatch is as it was, armed anew, or disarmed. -/
theorem dispatch_timers (s : State) :
    ((dispatch s).timers.wakeup = s.timers.wakeup ∨ (dispatch s).timers.wakeup = 0 ∨ (dispatch s).timers.wakeup = -1) ∧
    ((dispatch s).timers.button = s.timers.button ∨ (dispatch s).timers.button = 0 ∨ (dispatch s).timers.button = -1) ∧
    ((dispatch s).timers.idle = s.timers.idle ∨ (dispatch s).timers.idle = 0 ∨ (dispatch s).timers.idle = -1) := by
  by_cases hc : s.power.current = .powerDownEntry
  · simp [dispatch_of_powerDownEntry hc]
  · rcases dispatch_row hc with ⟨r, hr, -, -, -, -, -, hw, hb, hi⟩ | ⟨-, htimers⟩
    · obtain ⟨hrw, hrb, hri⟩ := transitionTable_timers r hr
      have hgetD : ∀ (o : Option Int) (t : Int), (∀ u ∈ o, u = 0 ∨ u = -1) →
          o.getD t = t ∨ o.getD t = 0 ∨ o.getD t = -1 := by
        intro o t ho
        cases o with
        | none => exact .inl rfl
        | some u => exact .inr (ho u rfl)
      rw [hw, hb, hi]
      exact ⟨hgetD _ _ hrw, hgetD _ _ hrb, hgetD _ _ hri⟩
    · simp [htimers]

/-- What a dispatch does to the wake source: `PowerDownEntry` arms it, `PowerDownExit` disarms it, and both leave nothing
pending (R199, R200, D18). -/
theorem dispatch_wake (s : State) :
    (dispatch s).power.wakeArmed =
      (decide (s.power.current = .powerDownEntry) || s.power.wakeArmed && decide (s.power.current ≠ .powerDownExit)) ∧
    (dispatch s).power.wakePending =
      (decide (s.power.current ≠ .powerDownEntry) && s.power.wakePending && decide (s.power.current ≠ .powerDownExit)) := by
  unfold dispatch
  cases s.power.current <;>
    simp only [dispatchStart, dispatchWaitEntry, dispatchWait, dispatchButtonPress, dispatchButtonRelease,
      dispatchSignaledOnEntry, dispatchSignaledOn, dispatchMcuRunningEntry, dispatchMcuRunning, dispatchIdleEntry,
      dispatchAdcNoiseEntry, dispatchAdcNoiseExit, dispatchSignaledOffEntry, dispatchSignaledOff, dispatchMcuOffEntry,
      dispatchMcuOff, dispatchPowerDownEntry, dispatchPowerDownExit, dispatchUndefined] <;>
    (repeat' split) <;> simp [PowerRegs.armWake, PowerRegs.disarmWake]

end Sys2Proof.Machine

/-! Proofs: the invariant (spec/10_state.md section 7, spec/43_power_fsm.md section 4): it holds at reset and every event
keeps it, component by component. -/

namespace Sys2Proof.Machine

/-! ## The power FSM: timers, press and outputs fit the power state -/

/-- The clauses of the invariant that tie a timer, a press or an output to the power state (R24, R187, R204). -/
structure State.FsmFits (s : State) : Prop where
  wakeup : s.timers.wakeup ≠ -1 → wakeupFamily s.power.current s.power.previous = true
  button : s.timers.button ≠ -1 → s.power.current = .buttonRelease
  idle : s.timers.idle ≠ -1 → s.power.current = .mcuRunning
  named : s.power.current.unnamed = false
  press : s.power.current.pressing = true → s.power.previous.context = true
  supply : ∀ b, expectedSupply s.power.current s.power.previous = some b → s.power.powerEnable = b
  shutdown : s.power.shutdownRequest = true → s.power.current = .signaledOff

theorem State.Inv.fsmFits {s : State} (h : s.Inv) : s.FsmFits := by
  obtain ⟨-, -, ⟨-, hwakeup, hbutton, hidle⟩, ⟨hnamed, -, hpress⟩, ⟨hsupply, hshutdown⟩, -, -, -⟩ := h
  exact ⟨hwakeup, hbutton, hidle, hnamed, hpress, hsupply, hshutdown⟩

/-- A release leads to where the level of the supply is that of the context (R187, R204); a context that is none of the three is
excluded by the clause on a press. -/
theorem State.FsmFits.dispatchButtonRelease {s : State} (h : s.FsmFits) (hc : s.power.current = .buttonRelease) :
    (dispatchButtonRelease s).FsmFits := by
  rw [Machine.dispatchButtonRelease]
  split
  · obtain ⟨hwakeup, hbutton, hidle, hnamed, hpress, hsupply, hshutdown⟩ := h
    cases hp : s.power.previous <;> cases expired s.timers.button s.cfg.buttonHoldTicks <;> constructor <;>
      simp_all [pressTarget, wakeupFamily, PowerState.unnamed, PowerState.steady, PowerState.pressing, PowerState.context,
        expectedSupply]
  · exact h

theorem State.FsmFits.dispatch {s : State} (h : s.FsmFits) : (dispatch s).FsmFits := by
  obtain ⟨hwakeup, hbutton, hidle, hnamed, hpress, hsupply, hshutdown⟩ := id h
  rw [Machine.dispatch]
  cases hc : s.power.current with
  | undefined n => simp [hc, PowerState.unnamed] at hnamed
  | buttonRelease => exact h.dispatchButtonRelease hc
  | wait | signaledOn | mcuRunningEntry | mcuRunning | signaledOff =>
    simp only [dispatchWait, dispatchSignaledOn, dispatchMcuRunningEntry, dispatchMcuRunning, dispatchSignaledOff]
    split_ifs <;> constructor <;>
      simp_all [wakeupFamily, PowerState.unnamed, PowerState.steady, PowerState.pressing, PowerState.context,
        expectedSupply]
  | _ =>
    constructor <;>
      simp_all [dispatchStart, dispatchWaitEntry, dispatchButtonPress, dispatchSignaledOnEntry, dispatchIdleEntry,
        dispatchAdcNoiseEntry, dispatchAdcNoiseExit, dispatchSignaledOffEntry, dispatchMcuOffEntry, dispatchMcuOff,
        dispatchPowerDownEntry, dispatchPowerDownExit, PowerRegs.armWake, PowerRegs.disarmWake, TimerRegs.stopped,
        wakeupFamily, PowerState.unnamed, PowerState.steady, PowerState.pressing, PowerState.context, expectedSupply]

theorem timerMax_nonneg {p : Config.Params} (h : p.Legal) : 0 ≤ p.timerMax := by
  obtain ⟨-, -, -, -, hhold, -⟩ := h
  omega

/-- A dispatch leaves each timer as it was, at 0 or at -1, and so legal. -/
theorem dispatch_timersWf {s : State} (hcfg : s.cfg.Legal) (h : TimersWf s) (hfits : (dispatch s).FsmFits) :
    TimersWf (dispatch s) := by
  obtain ⟨⟨⟨hw1, hw2⟩, ⟨hb1, hb2⟩, ⟨hi1, hi2⟩⟩, -⟩ := h
  obtain ⟨hw, hb, hi⟩ := dispatch_timers s
  have hmax := timerMax_nonneg hcfg
  refine ⟨?_, hfits.wakeup, hfits.button, hfits.idle⟩
  rw [dispatch_cfg]
  exact ⟨⟨by omega, by omega⟩, ⟨by omega, by omega⟩, ⟨by omega, by omega⟩⟩

theorem dispatch_controlWf {s : State} (h : ControlWf s) (hfits : (dispatch s).FsmFits) : ControlWf (dispatch s) := by
  obtain ⟨-, hprevious, -⟩ := h
  refine ⟨hfits.named, ?_, hfits.press⟩
  rw [dispatch_previous]
  split
  · next hsteady => exact .inr hsteady.2
  · exact hprevious

/-! ## The sleep -/

/-- No dispatch of a running foreground leads to `PowerDownExit` (R201). -/
theorem dispatch_current_ne_powerDownExit {s : State} (h : s.power.current ≠ .powerDownExit) :
    (dispatch s).power.current ≠ .powerDownExit := by
  by_cases hc : s.power.current = .powerDownEntry
  · simp [dispatch_of_powerDownEntry hc, hc]
  · rcases dispatch_row hc with ⟨r, hr, -, htarget, -⟩ | ⟨hpower, -⟩
    · exact htarget ▸ transitionTable_target_ne_powerDownExit r hr
    · exact hpower ▸ h

theorem dispatch_sleepWf {s : State} (h : SleepWf s) (hrun : s.power.fgPhase = .run) : SleepWf (dispatch s) := by
  obtain ⟨harmed, hadc, hspi, -, -, -, hpending⟩ := h
  rw [hrun] at harmed
  by_cases hentry : s.power.current = .powerDownEntry
  · simp [SleepWf, dispatch_of_powerDownEntry hentry, expectedArmed, hentry]
  by_cases hexit : s.power.current = .powerDownExit
  · simp [SleepWf, dispatch_of_powerDownExit hexit, expectedArmed, hrun]
  have hoff : s.power.wakeArmed = false := by simpa [expectedArmed, hexit] using harmed
  by_cases hlight : s.power.current = .adcNoiseEntry
  · simp_all [SleepWf, dispatch_of_adcNoiseEntry hlight, expectedArmed]
  obtain ⟨hadc', hspi'⟩ : (dispatch s).adc = s.adc ∧ (dispatch s).spi = s.spi := by
    simpa [hentry, hexit] using dispatch_components s
  have hphase : (dispatch s).power.fgPhase = .run := by
    rw [dispatch_fgPhase]
    split <;> simp_all
  have hcurrent := dispatch_current_ne_powerDownExit hexit
  simp_all [SleepWf, (dispatch_wake s).1, (dispatch_wake s).2, expectedArmed]

/-! ## The sequencer and the responder in a pass -/

/-- A channel a search selects is one of the build. -/
theorem State.successor_exists {s : State} {k : Chan} (h : s.successor = some k) : k.val < s.cfg.nCh := by
  unfold State.successor at h
  split at h
  · exact (requested_iff.1 (nextChannel_requested h)).1
  · exact (requested_iff.1 (firstChannel_requested h)).1

theorem adcPass_sequencerWf {s : State} (h : SequencerWf s) : SequencerWf s.adcPass := by
  obtain ⟨hchannel, hcomplete, hslots⟩ := h
  have hzero : ∀ k : Chan, s.cfg.nCh ≤ k.val → (zeroUnrequested s.cfg s.adc.channelMask s.adc.value)[k] = 0 := by
    intro k hk
    rw [zeroUnrequested_get, hslots k hk, ite_self]
  rw [SequencerWf, s.adcPass_adc, s.adcPass_cfg]
  split_ifs
  · exact ⟨fun _ => State.successor_exists, by simp, hslots⟩
  · next hc =>
    refine ⟨fun k hk => ?_, by simp [hc], hzero⟩
    rcases Option.or_eq_some_iff.1 hk with hk | ⟨-, hk⟩
    · exact hchannel k hk
    · exact (requested_iff.1 (firstChannel_requested hk)).1
  · exact ⟨hchannel, hcomplete, hslots⟩

theorem dispatch_sequencerWf {s : State} (h : SequencerWf s) : SequencerWf (dispatch s) := by
  obtain ⟨hchannel, hcomplete, hslots⟩ := h
  rcases dispatch_components s with ⟨-, hadc, -⟩ | ⟨-, hadc, -⟩ | ⟨-, -, hadc, -⟩ <;>
    rw [SequencerWf, hadc, dispatch_cfg]
  · exact ⟨hchannel, hcomplete, hslots⟩
  · exact ⟨by simp [AdcRegs.postsleep], by simp [AdcRegs.postsleep], hslots⟩
  · exact ⟨hchannel, hcomplete, hslots⟩

theorem dispatch_responderWf {s : State} (h : ResponderWf s) : ResponderWf (dispatch s) := by
  obtain ⟨hphase, hhalted⟩ := h
  rcases dispatch_components s with ⟨-, -, hspi⟩ | ⟨-, -, hspi⟩ | ⟨-, -, -, hspi⟩ <;>
    rw [ResponderWf, hspi]
  · exact ⟨hphase, hhalted⟩
  · exact ⟨by simp [SpiRegs.postsleep], hhalted⟩
  · exact ⟨hphase, hhalted⟩

/-! ## The events -/

theorem State.Inv.dispatch {s : State} (h : s.Inv) (hrun : s.power.fgPhase = .run) : (dispatch s).Inv where
  cfg := by simpa only [dispatch_cfg] using h.cfg
  filters := by simpa only [FiltersWf, dispatch_cfg, dispatch_debounce] using h.filters
  timers := dispatch_timersWf h.cfg h.timers h.fsmFits.dispatch
  control := dispatch_controlWf h.control h.fsmFits.dispatch
  outputs := ⟨h.fsmFits.dispatch.supply, h.fsmFits.dispatch.shutdown⟩
  sleep := dispatch_sleepWf h.sleep hrun
  sequencer := dispatch_sequencerWf h.sequencer
  responder := dispatch_responderWf h.responder

theorem State.Inv.finishPass {s : State} (h : s.Inv) (hh : s.spi.halted = false) : s.finishPass.Inv where
  cfg := by simpa only [State.finishPass_cfg] using h.cfg
  filters := by simpa only [FiltersWf, State.finishPass_cfg, State.finishPass_debounce] using h.filters
  timers := by simpa only [TimersWf, State.finishPass_cfg, State.finishPass_timers, State.finishPass_power] using h.timers
  control := by simpa only [ControlWf, State.finishPass_power] using h.control
  outputs := by simpa only [OutputsWf, State.finishPass_power] using h.outputs
  sleep := by simpa [SleepWf] using h.sleep
  sequencer := by simpa [SequencerWf] using adcPass_sequencerWf h.sequencer
  responder := by simpa [ResponderWf, hh] using h.responder.1

theorem State.Inv.foregroundPass {s : State} (h : s.Inv) (hs : s.PassReady) : s.foregroundPass.Inv := by
  obtain ⟨hh, hrun⟩ := hs
  have hd := h.dispatch hrun
  rcases s.foregroundPass_cases with ⟨-, he⟩ | ⟨-, he⟩
  · exact he ▸ hd
  · exact he ▸ hd.finishPass (by rw [dispatch_spi_halted, hh])

/-- The end of a light sleep keeps the invariant: its power state is not `PowerDownExit`, so nothing is armed. -/
theorem State.Inv.wakeLight {s : State} (h : s.Inv) : s.wakeLight.Inv where
  cfg := h.cfg
  filters := h.filters
  timers := h.timers
  control := h.control
  outputs := h.outputs
  sleep := by
    by_cases hl : s.power.fgPhase = .lightSleep
    · obtain ⟨harmed, hadc, hspi, -, -, hcurrent, hpending⟩ := h.sleep
      simp_all [SleepWf, expectedArmed]
    · simpa only [SleepWf, State.wakeLight_power, State.wakeLight_adc, State.wakeLight_spi, wakeLight_of_ne _ hl]
        using h.sleep
  sequencer := h.sequencer
  responder := h.responder

theorem DebounceRegs.sample_fits {p : Config.Params} (hp : p.Legal) (r : DebounceRegs) (b q : Bool) :
    MaskFits p (r.sample p.w b q).buttonMask ∧ MaskFits p (r.sample p.w b q).peerMask :=
  ⟨shiftIn_fits hp.1.2 _ _, shiftIn_fits hp.1.2 _ _⟩

theorem State.Inv.tick {s : State} (h : s.Inv) (b q : Bool) : (s.tick b q).Inv := by
  obtain ⟨⟨hw, hb, hi⟩, hwakeup, hbutton, hidle⟩ := h.timers
  refine State.Inv.wakeLight ⟨h.cfg, DebounceRegs.sample_fits h.cfg _ b q, ⟨⟨?_, ?_, ?_⟩, ?_, ?_, ?_⟩, h.control,
    h.outputs, h.sleep, h.sequencer, h.responder⟩
  · exact countTimer_legal hw
  · exact countTimer_legal hb
  · exact countTimer_legal hi
  · exact fun ht => hwakeup ((countTimer_active hw.1).1 ht)
  · exact fun ht => hbutton ((countTimer_active hb.1).1 ht)
  · exact fun ht => hidle ((countTimer_active hi.1).1 ht)

/-- A byte never leaves the count at 3 (R36, R91). -/
theorem State.transfer_phase_named {s : State} (h : s.spi.phase ≠ .reserved3) (cs : Bool) (rx : Byte) :
    (s.transfer cs rx).spi.phase ≠ .reserved3 := by
  cases cs with
  | false => simpa [State.transfer_unaddressed] using h
  | true =>
    simp only [State.transfer_addressed, State.wakeLight_spi, State.perform_spi_phase, SpiRegs.load, onByteReceived_phase]
    split <;> simp

theorem State.Inv.transfer {s : State} (h : s.Inv) (hh : s.spi.halted = false) (cs : Bool) (rx : Byte) :
    (s.transfer cs rx).Inv where
  cfg := by simpa only [State.transfer_cfg] using h.cfg
  filters := by simpa only [FiltersWf, State.transfer_cfg, State.transfer_debounce] using h.filters
  timers := by simpa [TimersWf] using h.timers
  control := by simpa [ControlWf] using h.control
  outputs := by simpa [OutputsWf] using h.outputs
  sleep := by simpa [SleepWf] using h.wakeLight.sleep
  sequencer := by simpa [SequencerWf] using h.sequencer
  responder := ⟨State.transfer_phase_named h.responder.1 cs rx, by simp [hh]⟩

theorem State.Inv.deselect {s : State} (h : s.Inv) : s.deselect.Inv :=
  State.Inv.wakeLight ⟨h.cfg, h.filters, h.timers, h.control, h.outputs, h.sleep, h.sequencer, by simp, h.responder.2⟩

/-- A result goes to the slot of the channel in flight, which exists (R120). -/
theorem State.Inv.conversionDone {s : State} (h : s.Inv) (hbusy : s.adc.busy = true) (v : Sample) :
    (s.conversionDone v).Inv := by
  obtain ⟨hchannel, -, hslots⟩ := h.sequencer
  refine State.Inv.wakeLight ⟨h.cfg, h.filters, h.timers, h.control, h.outputs, ?_, ⟨?_, ?_, ?_⟩, h.responder⟩
  · simpa [SleepWf, AdcRegs.signalComplete] using h.sleep
  · simpa [AdcRegs.signalComplete] using hchannel
  · simp only [AdcRegs.busy, Bool.and_eq_true] at hbusy
    simpa [AdcRegs.signalComplete, Option.isSome_iff_ne_none] using hbusy.1.2
  · intro k (hk : s.cfg.nCh ≤ k.val)
    exact (AdcRegs.store_value s.cfg s.adc v k).trans (by rw [if_neg (by omega), hslots k hk])

theorem State.Inv.wakeUp {s : State} (h : s.Inv) (harmed : s.power.wakeArmed = true) : s.wakeUp.Inv where
  cfg := h.cfg
  filters := h.filters
  timers := h.timers
  control := h.control
  outputs := h.outputs
  sleep := by
    have := h.sleep
    cases hf : s.power.fgPhase <;> simp_all [SleepWf, State.wakeUp, expectedArmed]
  sequencer := h.sequencer
  responder := h.responder

theorem State.Inv.current_of_pdArmed {s : State} (h : s.Inv) (hphase : s.power.fgPhase = .pdArmed) :
    s.power.current = .powerDownEntry := by
  obtain ⟨-, -, -, hcurrent, -⟩ := h.sleep
  exact hcurrent hphase

/-- The armed block is in `PowerDownEntry`, where no timer runs and the supply is off, as in `PowerDownExit` (R199, R213). -/
theorem State.Inv.checkThenSleep {s : State} (h : s.Inv) (hphase : s.power.fgPhase = .pdArmed) :
    s.checkThenSleep.Inv where
  cfg := h.cfg
  filters := h.filters
  timers := by
    obtain ⟨hlegal, hwakeup, hbutton, hidle⟩ := h.timers
    rw [h.current_of_pdArmed hphase] at hwakeup hbutton hidle
    exact ⟨hlegal, fun ht => by simpa [wakeupFamily] using hwakeup ht, fun ht => by simpa using hbutton ht,
      fun ht => by simpa using hidle ht⟩
  control := by
    have := h.control
    simp_all [ControlWf, State.checkThenSleep, PowerState.unnamed, PowerState.pressing]
  outputs := by
    have := h.outputs
    have hcurrent := h.current_of_pdArmed hphase
    simp_all [OutputsWf, State.checkThenSleep, expectedSupply]
  sleep := by
    have := h.sleep
    cases hp : s.power.wakePending <;> simp_all [SleepWf, State.checkThenSleep, expectedArmed]
  sequencer := h.sequencer
  responder := h.responder

theorem resetWith_inv {p : Config.Params} (hp : p.Legal) : (State.resetWith p).Inv where
  cfg := hp
  filters := by
    have hfits : MaskFits p (ones p.w) := by
      have := Nat.two_pow_pos p.w
      rw [MaskFits, ones_toNat hp.1.2]
      omega
    exact ⟨hfits, hfits⟩
  timers := by
    have hmax := timerMax_nonneg hp
    have hlegal : TimerLegal p (-1) := ⟨le_rfl, by omega⟩
    exact ⟨⟨hlegal, hlegal, hlegal⟩, fun h => absurd rfl h, fun h => absurd rfl h, fun h => absurd rfl h⟩
  control := (by decide : ControlWf (State.resetWith Config.Params.reference))
  outputs := (by decide : OutputsWf (State.resetWith Config.Params.reference))
  sleep := (by decide : SleepWf (State.resetWith Config.Params.reference))
  sequencer := ⟨nofun, nofun, fun k _ => Vector.getElem_replicate k.isLt⟩
  responder := (by decide : ResponderWf (State.resetWith Config.Params.reference))

/-- Every event keeps the invariant. -/
theorem State.Inv.runEvent {s t : State} {e : Event} (h : s.Inv) (hst : runEvent e s = .next t) : t.Inv := by
  rcases runEvent_cases hst with ⟨b, q, -, -, -, rfl⟩ | ⟨cs, rx, -, hh, -, rfl⟩ | ⟨-, -, -, rfl⟩ | ⟨v, -, -, hbusy, rfl⟩ |
    ⟨-, -, harmed, rfl⟩ | ⟨-, hh, hrun, rfl⟩ | ⟨-, -, hphase, rfl⟩ | ⟨-, rfl⟩
  · exact h.tick b q
  · exact h.transfer hh cs rx
  · exact h.deselect
  · exact h.conversionDone hbusy v
  · exact h.wakeUp harmed
  · exact h.foregroundPass ⟨hh, hrun⟩
  · exact h.checkThenSleep hphase
  · exact { resetWith_inv h.cfg with }

theorem State.Inv.runEvents {s t : State} {es : List Event} (h : s.Inv) (hst : runEvents es s = .next t) : t.Inv := by
  induction es generalizing s with
  | nil =>
    cases hst
    exact h
  | cons e es ih =>
    obtain ⟨u, hu, ht⟩ := andThen_next_iff.1 hst
    exact ih (h.runEvent hu) ht

theorem exec_eq_runEvents (i : Instr) (s : State) : exec i s = runEvents ((encode i).map (Event.spiByte true)) s := by
  cases i <;> rfl

theorem State.Inv.beginStep {s : State} (h : s.Inv) (x : Input) (rest : List Input) : (s.beginStep x rest).Inv :=
  { h with }

/-- The open parameters are reduced into their ranges (R6). -/
theorem build_legal : Config.build.Legal := by
  have hticks : ∀ n : Nat, ((n % 2 ^ (Config.Params.reference.timerW - 1) : Nat) : Int) ≤ Config.build.timerMax := by
    intro n
    have hmax : Config.build.timerMax = 32767 := rfl
    have hw : 2 ^ (Config.Params.reference.timerW - 1) = 32768 := rfl
    rw [hmax, hw]
    omega
  exact ⟨by decide, ⟨Nat.le_add_left 1 _, Nat.mod_lt _ (by decide)⟩, by decide, Nat.succ_pos _, hticks _, hticks _,
    hticks _⟩

/-! ## The statements -/

/-- Settles O2: at reset every timer is disarmed, both filters hold W ones, and nothing is armed or in flight. -/
theorem resetMeetsInvariant : Obligations.ResetMeetsInvariant := by
  exact ⟨fun p => resetWith_inv, rfl, build_legal, by decide⟩

/-- Settles O15: each meaning is the transaction of its encoding's bytes. -/
theorem commandIsItsThreeWireBytes : Obligations.CommandIsItsThreeWireBytes := exec_eq_runEvents

/-- Settles O12: a step is a run of events, of a transaction's bytes or of one event, or a wait. -/
theorem everyStepKeepsTheInvariant : Obligations.EveryStepKeepsTheInvariant := by
  intro s t h hst
  rcases step_cases hst with ⟨m1, m2, m3, hx⟩ | ⟨x, e, he⟩ | ⟨-, rfl⟩
  · exact (h.beginStep _ _).runEvents (exec_eq_runEvents _ _ ▸ hx)
  · exact (h.beginStep _ _).runEvent he
  · exact { h with }

end Sys2Proof.Machine

/-! Proofs: passes against the transition table (spec/43_power_fsm.md R182, R187, R193, R199, R201): the statements about what a
pass does to the FSM registers and the timers. -/

namespace Sys2Proof.Machine

/-! ## A pass by its dispatch -/

/-- A pass that its dispatch suspends is the dispatch alone (R180). -/
theorem State.foregroundPass_of_suspended {s d : State} (hd : dispatch s = d) (h : d.power.fgPhase ≠ .run) :
    s.foregroundPass = d := by
  subst hd
  exact if_neg h

theorem TransitionRow.TakenFrom.foregroundPass {r : TransitionRow} {s : State} (h : r.TakenFrom s (dispatch s)) :
    r.TakenFrom s s.foregroundPass := by
  simpa only [TransitionRow.TakenFrom, State.foregroundPass_power, State.foregroundPass_timers] using h

theorem State.PassReady.dispatch_fgPhase_eq {s : State} (hs : s.PassReady) (hc : s.power.current ≠ .powerDownEntry) :
    (dispatch s).power.fgPhase = if s.power.current = .adcNoiseEntry then .lightSleep else .run := by
  rw [Machine.dispatch_fgPhase]
  split
  · next h => exact absurd h hc
  · next h => rw [if_pos h]
  · next _ h => rw [if_neg h, hs.2]

/-- Settles O44: the dispatch follows the table, and the rest of the pass writes neither the FSM registers nor a timer. -/
theorem passFollowsTheTransitionTable : Obligations.PassFollowsTheTransitionTable := by
  refine fun s => ⟨fun hs hc => ?_, fun hh hrun => whenEnabled_noStep hh (decide_eq_false hrun)⟩
  obtain ⟨harmed, hpending⟩ := dispatch_wake s
  have hfollows := dispatch_follows hc
  refine ⟨s.foregroundPass, hs.fgPass_step, fun r hr => ?_, fun hnone => ?_, ?_, ?_, ?_⟩
  · rw [hr] at hfollows
    exact TransitionRow.TakenFrom.foregroundPass hfollows
  · rw [hnone] at hfollows
    rw [s.foregroundPass_power, s.foregroundPass_timers]
    exact hfollows
  · rw [s.foregroundPass_power, hs.dispatch_fgPhase_eq hc]
  · rw [s.foregroundPass_power, harmed, decide_eq_false hc, Bool.false_or]
  · rw [s.foregroundPass_power, hpending, decide_eq_true hc, Bool.true_and]

/-- Settles O46: the dispatch records the steady state it leaves; no other event but RESET writes `previous`. -/
theorem previousRecordsTheSteadyStateLeft : Obligations.PreviousRecordsTheSteadyStateLeft := by
  intro s t e hst hreset
  rcases runEvent_cases hst with ⟨b, q, rfl, -, -, rfl⟩ | ⟨cs, rx, rfl, -, -, rfl⟩ | ⟨rfl, -, -, rfl⟩ | ⟨v, rfl, -, -, rfl⟩ |
    ⟨rfl, -, -, rfl⟩ | ⟨rfl, -, -, rfl⟩ | ⟨rfl, -, -, rfl⟩ | ⟨rfl, -⟩
  case inr.inr.inr.inr.inr.inl =>
    rw [s.foregroundPass_power, dispatch_previous]
    simp
  case inr.inr.inr.inr.inr.inr.inr => exact absurd rfl hreset
  all_goals simp [State.wakeUp, State.checkThenSleep]

/-! ## Which event writes which register -/

@[simp] theorem State.foregroundPass_spi_addr (s : State) : s.foregroundPass.spi.addr = s.spi.addr := by
  rcases s.foregroundPass_cases with ⟨_, h⟩ | ⟨_, h⟩ <;> simp [h]
@[simp] theorem State.foregroundPass_spi_pending (s : State) : s.foregroundPass.spi.pending = s.spi.pending := by
  rcases s.foregroundPass_cases with ⟨_, h⟩ | ⟨_, h⟩ <;> simp [h]
@[simp] theorem State.foregroundPass_spi_tx (s : State) : s.foregroundPass.spi.tx = s.spi.tx := by
  rcases s.foregroundPass_cases with ⟨_, h⟩ | ⟨_, h⟩ <;> simp [h]

@[simp] theorem AdcRegs.signalComplete_channelMask (r : AdcRegs) : r.signalComplete.channelMask = r.channelMask := rfl
@[simp] theorem AdcRegs.signalComplete_value (r : AdcRegs) : r.signalComplete.value = r.value := rfl
@[simp] theorem AdcRegs.signalComplete_currentChannel (r : AdcRegs) : r.signalComplete.currentChannel = r.currentChannel := rfl
@[simp] theorem AdcRegs.signalComplete_complete (r : AdcRegs) : r.signalComplete.complete = true := rfl
@[simp] theorem AdcRegs.signalComplete_enabled (r : AdcRegs) : r.signalComplete.enabled = r.enabled := rfl

/-- Settles O59: each event against the ownership table. -/
theorem onlyTheListedEventsWriteARegister : Obligations.OnlyTheListedEventsWriteARegister := by
  intro s t e hst hreset
  rcases runEvent_cases hst with ⟨b, q, rfl, -, -, rfl⟩ | ⟨cs, rx, rfl, -, -, rfl⟩ | ⟨rfl, -, -, rfl⟩ | ⟨v, rfl, -, -, rfl⟩ |
    ⟨rfl, -, -, rfl⟩ | ⟨rfl, -, -, rfl⟩ | ⟨rfl, -, -, rfl⟩ | ⟨rfl, -⟩
  case inr.inr.inr.inr.inr.inr.inr => exact absurd rfl hreset
  all_goals cases hf : s.power.fgPhase <;> simp [Event.kind?, State.wakeUp, State.checkThenSleep, hf]

theorem Event.eq_fgPass_of_kind {e : Event} (h : e.kind? = some .fgPass) : e = .fgPass := by
  cases e <;> simp [Event.kind?] at h ⊢

/-- An event but RESET that is no pass leaves both outputs as they are (R51). -/
theorem runEvent_outputs {s t : State} {e : Event} (hst : runEvent e s = .next t) (hreset : e ≠ .reset) :
    (t.power.powerEnable = s.power.powerEnable ∧ t.power.shutdownRequest = s.power.shutdownRequest) ∨
      (e = .fgPass ∧ t.power = (dispatch s).power) := by
  obtain ⟨-, -, -, hsame | hpass, -⟩ := onlyTheListedEventsWriteARegister s t e hst hreset
  · exact .inl hsame
  · obtain rfl := Event.eq_fgPass_of_kind hpass
    obtain ⟨-, -, rfl⟩ := runEvent_fgPass_iff.1 hst
    exact .inr ⟨rfl, s.foregroundPass_power⟩

/-- `reg` is a register that only the column `column` of the transition table and RESET write, RESET with 0. -/
structure WrittenByColumn (reg : PowerRegs → Bool) (column : TransitionRow → Option Bool) : Prop where
  taken : ∀ {r : TransitionRow} {s t : State}, r.TakenFrom s t → reg t.power = (column r).getD (reg s.power)
  arming : ∀ {s : State}, s.power.current = .powerDownEntry → reg (dispatch s).power = reg s.power
  atReset : ∀ p, reg (State.resetWith p).power = false
  frame : ∀ {s t : State} {e : Event}, runEvent e s = .next t → e ≠ .reset →
    reg t.power = reg s.power ∨ e = .fgPass ∧ t.power = (dispatch s).power

theorem powerEnable_writtenByColumn : WrittenByColumn (·.powerEnable) (·.powerEnable) where
  taken := fun ⟨_, _, h, _⟩ => h
  arming := fun h => by rw [dispatch_of_powerDownEntry h]
  atReset := fun _ => rfl
  frame := fun hst hreset => (runEvent_outputs hst hreset).imp_left And.left

theorem shutdownRequest_writtenByColumn : WrittenByColumn (·.shutdownRequest) (·.shutdownRequest) where
  taken := fun ⟨_, _, _, h, _⟩ => h
  arming := fun h => by rw [dispatch_of_powerDownEntry h]
  atReset := fun _ => rfl
  frame := fun hst hreset => (runEvent_outputs hst hreset).imp_left And.right

section
variable {reg : PowerRegs → Bool} {column : TransitionRow → Option Bool} (hreg : WrittenByColumn reg column)
include hreg

/-- A dispatch that changes the register takes a row that writes it. -/
theorem WrittenByColumn.row_of_dispatch {s : State} {b : Bool} (hold : reg s.power = !b) (hnew : reg (dispatch s).power = b) :
    ∃ r ∈ transitionTable, r.source = s.power.current ∧ column r = some b := by
  by_cases hc : s.power.current = .powerDownEntry
  · simp [hreg.arming hc, hold] at hnew
  · rcases dispatch_row hc with ⟨r, hr, hsrc, htaken⟩ | ⟨hpower, -⟩
    · refine ⟨r, hr, hsrc, ?_⟩
      rw [hreg.taken htaken, hold] at hnew
      cases hcol : column r <;> simp_all
    · simp [hpower, hold] at hnew

/-- An event that changes the register is a pass that takes a row that writes it, or RESET, which writes 0. -/
theorem WrittenByColumn.row_of_runEvent {s t : State} {e : Event} {b : Bool} (hst : runEvent e s = .next t)
    (hold : reg s.power = !b) (hnew : reg t.power = b) :
    (e = .reset ∧ b = false) ∨
      (e = .fgPass ∧ ∃ r ∈ transitionTable, r.source = s.power.current ∧ column r = some b) := by
  by_cases hreset : e = .reset
  · subst hreset
    obtain rfl := runEvent_reset_iff.1 hst
    exact .inl ⟨rfl, hnew.symm.trans (hreg.atReset s.cfg)⟩
  · rcases hreg.frame hst hreset with hsame | ⟨he, hpower⟩
    · simp [hsame, hold] at hnew
    · exact .inr ⟨he, hreg.row_of_dispatch hold (hpower ▸ hnew)⟩

end

/-- Settles O57: the rows that write the supply. -/
theorem supplyIsSwitchedOnlyByItsThreeDispatches : Obligations.SupplyIsSwitchedOnlyByItsThreeDispatches := by
  intro s t e hst
  refine ⟨fun hoff hon => ?_, fun hon hoff => ?_⟩
  · rcases powerEnable_writtenByColumn.row_of_runEvent (b := true) hst hoff hon with ⟨-, h⟩ | ⟨he, r, hr, hsrc, hcol⟩
    · cases h
    · exact ⟨he, hsrc ▸ transitionTable_powerEnable_on r hr hcol⟩
  · rcases powerEnable_writtenByColumn.row_of_runEvent (b := false) hst hon hoff with ⟨he, -⟩ | ⟨he, r, hr, hsrc, hcol⟩
    · exact .inl he
    · exact .inr ⟨he, hsrc ▸ transitionTable_powerEnable_off r hr hcol⟩

/-- Settles O58: the rows that write the request. -/
theorem shutdownIsRequestedOnlyByItsDispatches : Obligations.ShutdownIsRequestedOnlyByItsDispatches := by
  intro s t e hst
  refine ⟨fun hoff hon => ?_, fun hon hoff => ?_⟩
  · rcases shutdownRequest_writtenByColumn.row_of_runEvent (b := true) hst hoff hon with ⟨-, h⟩ | ⟨he, r, hr, hsrc, hcol⟩
    · cases h
    · exact ⟨he, hsrc ▸ transitionTable_shutdownRequest_on r hr hcol⟩
  · rcases shutdownRequest_writtenByColumn.row_of_runEvent (b := false) hst hon hoff with ⟨he, -⟩ | ⟨he, r, hr, hsrc, hcol⟩
    · exact .inl he
    · exact .inr ⟨he, hsrc ▸ transitionTable_shutdownRequest_off r hr hcol⟩

/-! ## Single states -/

/-- A release leads where the context and the length of the press say, to `Start` without a context (R187). -/
theorem dispatch_of_released {s : State} (hc : s.power.current = .buttonRelease) (hb : s.btn = .released) :
    dispatch s =
      { s with
        power :=
          { s.power with
            current := (pressTarget s.power.previous (expired s.timers.button s.cfg.buttonHoldTicks)).getD .start }
        timers := { s.timers with button := -1 } } := by
  simp only [dispatch, hc, dispatchButtonRelease, if_pos hb]
  split
  · next S hS =>
    rw [hS]
    exact State.goto_of_not_steady _ (congrArg PowerState.steady hc)
  · next hS =>
    rw [hS]
    rfl

theorem dispatch_of_not_released {s : State} (hc : s.power.current = .buttonRelease) (hb : s.btn ≠ .released) :
    dispatch s = s := by
  simp only [dispatch, hc, dispatchButtonRelease, if_neg hb]

/-- The target of a press as the three contexts in turn (R187, D12). -/
theorem pressTarget_getD (context : PowerState) (long : Bool) :
    (pressTarget context long).getD .start =
      if context = .wait then (if long then .signaledOnEntry else .waitEntry)
      else if context = .signaledOn then (if long then .mcuOffEntry else .signaledOnEntry)
      else if context = .mcuRunning then (if long then .signaledOffEntry else .mcuRunningEntry)
      else .start := by
  cases context <;> simp [pressTarget]

/-- Settles O47: `pressTarget` by the three contexts in turn. -/
theorem releasedPressIsClassified : Obligations.ReleasedPressIsClassified := by
  intro s hs hc
  refine ⟨s.foregroundPass, hs.fgPass_step, fun hb => ?_, fun hb => ?_⟩
  · rw [s.foregroundPass_power, s.foregroundPass_timers, dispatch_of_not_released hc hb]
    exact ⟨rfl, rfl⟩
  · rw [s.foregroundPass_power, s.foregroundPass_timers, dispatch_of_released hc hb]
    refine ⟨rfl, rfl, ?_⟩
    simp only [pressTarget_getD, expired_iff]

/-- Settles O48: the arming suspends the pass. -/
theorem powerDownEntryArmsAndSuspends : Obligations.PowerDownEntryArmsAndSuspends := by
  intro s hs hc
  rw [hs.fgPass_step, State.foregroundPass_of_suspended (dispatch_of_powerDownEntry hc) nofun]

/-- Settles O49: the light sleep suspends the pass. -/
theorem lightSleepEntrySuspends : Obligations.LightSleepEntrySuspends := by
  intro s hs hc
  rw [hs.fgPass_step, State.foregroundPass_of_suspended (dispatch_of_adcNoiseEntry hc) nofun]

end Sys2Proof.Machine

/-! Proofs: complete passes (spec/43_power_fsm.md R180, spec/41_adc_sequencer.md R123 to R126, spec/42_spi_responder.md R161):
the conversion a pass starts, its deferred effects, and what the invariant says of a selected channel (spec/10_state.md R49). -/

namespace Sys2Proof.Machine

/-! ## The conversion a pass of the sequencer starts -/

/-- The channel on which a pass of the sequencer starts a conversion, if it starts one (R123, R125). -/
def State.selected (s : State) : Option Chan :=
  if s.adc.enabled then
    if s.adc.complete then s.successor
    else if s.adc.currentChannel = none then firstChannel s.cfg s.adc.channelMask
    else none
  else none

theorem startPulse_eq (found : Option Chan) : startPulse found = found.toList.map Output.adcStart := by
  cases found <;> rfl

theorem State.adcPass_outputs (s : State) : s.adcPass.outputs = s.outputs ++ startPulse s.selected := by
  rw [startPulse_eq]
  rcases s.adcPass_cases with ⟨he, h⟩ | ⟨he, hc, h⟩ | ⟨he, hc, hk, h⟩ | ⟨he, hc, hk, h⟩
  · simp [h, State.selected, he]
  · simp [h, State.selected, he, hc, State.select_outputs]
  · simp [h, State.selected, he, hc, hk]
  · simp [h, State.selected, he, hc, hk, State.select_outputs]

/-- The selected channel is in flight after the pass; without a selection the channel in flight is the old one. -/
theorem State.adcPass_currentChannel {s : State} {k : Chan} (h : s.adcPass.adc.currentChannel = some k) :
    s.selected = some k ∨ (s.selected = none ∧ s.adc.currentChannel = some k) := by
  rw [s.adcPass_adc] at h
  unfold State.selected
  split_ifs at h ⊢ with he hc hk
  · exact .inl h
  · exact .inl (by simpa [hk] using h)
  · obtain ⟨c, hc⟩ := Option.ne_none_iff_exists'.1 hk
    exact .inr ⟨rfl, by simpa [hc] using h⟩
  · exact .inr ⟨rfl, h⟩

/-- A pass selects a requested channel of the build (R121, R122). -/
theorem State.selected_requested {s : State} {k : Chan} (h : s.selected = some k) :
    requested s.cfg s.adc.channelMask k = true := by
  unfold State.selected State.successor at h
  split_ifs at h
  · split at h
    · exact nextChannel_requested h
    · exact firstChannel_requested h
  · exact firstChannel_requested h

theorem State.selected_congr {s t : State} (hcfg : s.cfg = t.cfg) (hadc : s.adc = t.adc) : s.selected = t.selected := by
  rw [State.selected, State.selected, State.successor, State.successor, hcfg, hadc]

/-! ## What a trace shows -/

@[simp] theorem conversionStarts_append (os os' : List Output) :
    conversionStarts (os ++ os') = conversionStarts os ++ conversionStarts os' := List.filterMap_append

@[simp] theorem conversionStarts_startPulse (found : Option Chan) : conversionStarts (startPulse found) = found.toList := by
  cases found <;> rfl

/-- A complete pass puts out the pulse of the conversion it starts, then the watchdog's (R180). -/
theorem State.finishPass_outputs_eq (s : State) :
    s.finishPass.outputs = s.outputs ++ startPulse s.selected ++ [.wdtKick] := by
  rw [State.finishPass_outputs, State.adcPass_outputs]

theorem State.conversionStarts_finishPass (s : State) :
    conversionStarts s.finishPass.outputs = conversionStarts s.outputs ++ s.selected.toList := by
  rw [State.finishPass_outputs_eq, conversionStarts_append, conversionStarts_append, conversionStarts_startPulse]
  exact List.append_nil _

/-! ## Complete passes -/

theorem current_ne_powerDownEntry {s : State} (hc : suspends s.power.current = false) : s.power.current ≠ .powerDownEntry := by
  intro h
  simp [h, suspends] at hc

/-- Outside the power-down a dispatch leaves the sequencer and the responder alone. -/
theorem dispatch_components_same {s : State} (hc : suspends s.power.current = false)
    (hexit : s.power.current ≠ .powerDownExit) : (dispatch s).adc = s.adc ∧ (dispatch s).spi = s.spi := by
  simpa [current_ne_powerDownEntry hc, hexit] using dispatch_components s

/-- Settles O34: `spi_pass` runs after the dispatch, and of the responder a dispatch that does not suspend writes only what
`PowerDownExit` resumes. -/
theorem completePassPerformsTheDeferredEffects : Obligations.CompletePassPerformsTheDeferredEffects := by
  intro s hs hc
  refine ⟨(dispatch s).finishPass, hs.foregroundPass_eq hc ▸ hs.fgPass_step, by simp, by simp, by simp, by simp,
    by simp [hs.1], by simp, rfl, by simp, by simp, by simp, fun hexit => ?_⟩
  simp [(dispatch_components_same hc hexit).2]

/-- Settles O42: the dispatch leaves the sequencer alone, so `adc_pass` runs on the registers as they were. -/
theorem completePassAdvancesTheSequencer : Obligations.CompletePassAdvancesTheSequencer := by
  intro s hs he hc hexit
  obtain ⟨hadc, -⟩ := dispatch_components_same hc hexit
  have hpass : (dispatch s).adcPass.adc = s.adcPass.adc := State.adcPass_adc_congr (dispatch_cfg s) hadc
  have hsel : (dispatch s).selected = s.selected := State.selected_congr (dispatch_cfg s) hadc
  have houtputs : (dispatch s).finishPass.outputs = s.outputs ++ startPulse s.selected ++ [.wdtKick] := by
    rw [State.finishPass_outputs_eq, hsel, dispatch_outputs]
  refine ⟨(dispatch s).finishPass, hs.foregroundPass_eq hc ▸ hs.fgPass_step, fun c hdone hk => ?_, fun hdone => ?_⟩
  · rw [houtputs, State.finishPass_adc, hpass, s.adcPass_adc]
    simp [State.selected, State.successor, he, hdone, hk]
  · rw [houtputs, State.finishPass_adc, hpass, s.adcPass_adc]
    simp only [State.selected, he, hdone, if_true, if_neg Bool.false_ne_true, true_and]
    refine ⟨zeroUnrequested_get _ _ _, fun c hk => ?_, fun hk => ?_⟩
    · simp [hk, startPulse]
    · simp [hk]

/-- Settles O51: the post-sleep hooks leave an enabled, idle sequencer, which starts afresh in the same pass. -/
theorem powerDownExitResumes : Obligations.PowerDownExitResumes := by
  intro s hs hc
  have hd := dispatch_of_powerDownExit hc
  have hpass := hs.foregroundPass_eq (by rw [hc]; rfl)
  refine ⟨s.foregroundPass, hs.fgPass_step, by rw [s.foregroundPass_power, hd], by rw [s.foregroundPass_timers, hd], ?_⟩
  rw [hpass, State.conversionStarts_finishPass, State.finishPass_spi, State.finishPass_adc, State.adcPass_adc, hd]
  exact ⟨by simp, by simp, by simp, rfl, rfl, rfl, zeroUnrequested_get _ _ _, rfl, rfl⟩

/-! ## The properties of reachable states -/

theorem State.Inv.reachableProperties {s : State} (h : s.Inv) : s.ReachableProperties := by
  obtain ⟨hchannel, hcomplete, -⟩ := h.sequencer
  obtain ⟨harmed, hadc, hspi, harming, hdeep, hlight, hpending⟩ := h.sleep
  obtain ⟨hsupply, hshutdown⟩ := h.outputs
  refine ⟨hchannel, hcomplete, h.timers.1, ?_, ⟨?_, ?_⟩, hlight, hpending, ?_, h.responder.1, h.responder.2⟩
  · simp [hadc, hspi]
  · rintro (hphase | hphase) <;> rw [harmed, hphase] <;> rfl
  · intro ht
    rw [harmed] at ht
    cases hphase : s.power.fgPhase <;> simp_all [expectedArmed]
  · exact fun hs => hsupply true (by rw [hshutdown hs]; rfl)

/-- A dispatch puts no channel in flight (R128). -/
theorem dispatch_currentChannel {s : State} {k : Chan} (h : (dispatch s).adc.currentChannel = some k) :
    s.adc.currentChannel = some k := by
  rcases dispatch_components s with ⟨-, hadc, -⟩ | ⟨-, hadc, -⟩ | ⟨-, -, hadc, -⟩
  · rwa [hadc] at h
  · rw [hadc] at h
    cases h
  · rwa [hadc] at h

/-- `selected` are the channels on which an event `e` from `s` to `t` starts conversions, and they account for the channel in
flight (R49 item 1). -/
def Selects (s t : State) (e : Event) (selected : List Chan) : Prop :=
  conversionStarts t.outputs = conversionStarts s.outputs ++ selected ∧
  (∀ k ∈ selected, e = .fgPass ∧ k.val < s.cfg.nCh ∧ s.adc.channelMask.getLsbD k.val = true) ∧
  (∀ k : Chan, t.adc.currentChannel = some k → selected = [k] ∨ (selected = [] ∧ s.adc.currentChannel = some k))

/-- An event that neither starts a conversion nor puts a channel in flight selects nothing. -/
theorem selects_nil {s t : State} {e : Event} (houtputs : conversionStarts t.outputs = conversionStarts s.outputs)
    (hchannel : ∀ k : Chan, t.adc.currentChannel = some k → s.adc.currentChannel = some k) : Selects s t e [] :=
  ⟨by rw [houtputs, List.append_nil], nofun, fun k hk => .inr ⟨rfl, hchannel k hk⟩⟩

theorem selects_foregroundPass (s : State) : ∃ selected, Selects s s.foregroundPass .fgPass selected := by
  rcases s.foregroundPass_cases with ⟨-, h⟩ | ⟨-, h⟩ <;> rw [h]
  · exact ⟨[], selects_nil (by rw [dispatch_outputs]) fun k => dispatch_currentChannel⟩
  · refine ⟨(dispatch s).selected.toList, by rw [State.conversionStarts_finishPass, dispatch_outputs], fun k hk => ?_,
      fun k hk => ?_⟩
    · have hreq := State.selected_requested (Option.mem_toList.1 hk)
      rw [dispatch_cfg, dispatch_adc_channelMask] at hreq
      exact ⟨rfl, requested_iff.1 hreq⟩
    · rw [State.finishPass_adc] at hk
      rcases State.adcPass_currentChannel hk with hsel | ⟨hsel, hold⟩
      · exact .inl (by rw [hsel]; rfl)
      · exact .inr ⟨by rw [hsel]; rfl, dispatch_currentChannel hold⟩

/-- Settles O13: of the events a pass alone selects a channel. -/
theorem invariantGivesTheReachableProperties : Obligations.InvariantGivesTheReachableProperties := by
  refine fun s h => ⟨h.reachableProperties, fun e t hst => ?_⟩
  rcases runEvent_cases hst with ⟨b, q, rfl, -, -, rfl⟩ | ⟨cs, rx, rfl, -, -, rfl⟩ | ⟨rfl, -, -, rfl⟩ | ⟨v, rfl, -, -, rfl⟩ |
    ⟨rfl, -, -, rfl⟩ | ⟨rfl, -, -, rfl⟩ | ⟨rfl, -, -, rfl⟩ | ⟨rfl, rfl⟩
  · exact ⟨[], selects_nil rfl fun _ => id⟩
  · exact ⟨[], selects_nil (by simp [conversionStarts]) fun k => by simp⟩
  · exact ⟨[], selects_nil rfl fun _ => id⟩
  · exact ⟨[], selects_nil rfl fun k => by simp⟩
  · exact ⟨[], selects_nil rfl fun _ => id⟩
  · exact selects_foregroundPass s
  · exact ⟨[], selects_nil rfl fun _ => id⟩
  · exact ⟨[], selects_nil rfl nofun⟩

end Sys2Proof.Machine

/-! Proofs: the step, RESET, the halt and the output lines (spec/00_scope.md R7, R8, spec/42_spi_responder.md R157,
spec/70_reset_and_hazards.md R260). -/

namespace Sys2Proof.Machine

/-! ## The commands as transactions -/

/-- The meaning of every command is the transaction of its three wire bytes (R86). -/
theorem exec_eq_transaction (i : Instr) (s : State) : exec i s = transaction i.address i.data.1 i.data.2 s :=
  exec_eq_runEvents i s

theorem exec_halted {s : State} (i : Instr) (h : s.spi.halted = true) : exec i s = .fault .halted := by
  rw [exec_eq_transaction, transaction_halted h]

/-- After the halt no event but RESET has a step (R157, U4). -/
theorem runEvent_halted {s : State} {e : Event} (h : s.spi.halted = true) (he : e ≠ .reset) : runEvent e s = .fault .halted := by
  cases e with
  | reset => exact absurd rfl he
  | _ => exact whenEnabled_halted h

/-- Settles O25: the first wire byte has no step. -/
theorem commandHasNoStepWhereTheBusHasNone : Obligations.CommandHasNoStepWhereTheBusHasNone :=
  fun s i => ⟨exec_halted i, fun hh he => by rw [exec_eq_transaction, transaction_noStep hh he]⟩

/-- Settles O35: a step after the halt runs an event or a command, which fault, unless the schedule's head is a reset. -/
theorem haltedBlockHasNoStepButReset : Obligations.HaltedBlockHasNoStepButReset := by
  refine fun s h => ⟨fun e => runEvent_halted h, fun i => exec_halted i h, fun hreset hwatchdog => ?_, _, rfl, rfl⟩
  unfold step
  split
  · exact exec_halted _ h
  · next e rest hs => exact runEvent_halted h fun he => hreset (by rw [hs, he]; rfl)
  · next rest hs => exact absurd (by rw [hs]; rfl) hwatchdog
  · exact if_pos h

/-! ## The step -/

/-- Settles O8: three bytes decode to what `decodeXfer` answers, whatever follows. -/
theorem stepRunsTheDecodedTransaction : Obligations.StepRunsTheDecodedTransaction := by
  intro s a d p rest tail i inputs hs hdecode
  obtain rfl : decodeXfer a d p = i := congrArg Prod.fst (Except.ok.inj hdecode)
  rw [step, hs]
  rfl

/-- Settles O9: the branch of `step` for an event. -/
theorem stepRunsTheScheduledEvent : Obligations.StepRunsTheScheduledEvent := by
  intro s e inputs hs
  rw [step, hs]
  rfl

/-- Settles O10: the foreground's event by where the foreground stands. -/
theorem stepWithNothingScheduledIsTheForeground : Obligations.StepWithNothingScheduledIsTheForeground := by
  intro s hs hh
  have hstep : step s = stepUnscheduled s := by rw [step, hs]
  rw [hstep, stepUnscheduled, hh, foregroundEvent]
  refine ⟨fun hphase => ?_, fun hphase => ?_, ?_⟩
  · simp [hphase, State.beginStep, hs]
  · simp [hphase, State.beginStep, hs]
  · rintro (hphase | hphase) <;> rw [hphase] <;> rfl

/-- Settles O11: the word's three bytes are what is placed, and the decoder reads them back. -/
theorem fetchedTableWordIsRun : Obligations.FetchedTableWordIsRun := by
  intro s w i hi
  rw [decodeTableWord_24] at hi
  obtain rfl := Option.some.inj hi
  exact ⟨_, _, _, encode_decodeXfer _ _ _, rfl⟩

/-! ## What an event leaves of the model's own fields -/

theorem runEvent_cfg_schedule_history {e : Event} {s t : State} (h : runEvent e s = .next t) :
    t.cfg = s.cfg ∧ t.schedule = s.schedule ∧ t.history = s.history := by
  rcases runEvent_cases h with ⟨b, q, -, -, -, rfl⟩ | ⟨cs, rx, -, -, -, rfl⟩ | ⟨-, -, -, rfl⟩ | ⟨v, -, -, -, rfl⟩ |
    ⟨-, -, -, rfl⟩ | ⟨-, -, -, rfl⟩ | ⟨-, -, -, rfl⟩ | ⟨-, rfl⟩ <;> simp [State.wakeUp, State.checkThenSleep]

theorem runEvents_cfg_schedule_history {es : List Event} {s t : State} (h : runEvents es s = .next t) :
    t.cfg = s.cfg ∧ t.schedule = s.schedule ∧ t.history = s.history := by
  induction es generalizing s with
  | nil =>
    cases h
    exact ⟨rfl, rfl, rfl⟩
  | cons e es ih =>
    obtain ⟨u, hu, ht⟩ := andThen_next_iff.1 h
    obtain ⟨hc, hs, hh⟩ := runEvent_cfg_schedule_history hu
    obtain ⟨hc', hs', hh'⟩ := ih ht
    exact ⟨hc'.trans hc, hs'.trans hs, hh'.trans hh⟩

/-- Settles O14: no event writes the model's own fields but `outputs` and `sinceKick`; the step does at its begin. -/
theorem stepKeepsTheBuildAndTheScheduleTail : Obligations.StepKeepsTheBuildAndTheScheduleTail := by
  intro s t hst
  rcases step_cases hst with ⟨m1, m2, m3, hx⟩ | ⟨x, e, he⟩ | ⟨hs, rfl⟩
  · obtain ⟨hc, hs, hh⟩ := runEvents_cfg_schedule_history (exec_eq_runEvents _ _ ▸ hx)
    exact ⟨hc, hs, .inr ⟨_, hh⟩⟩
  · obtain ⟨hc, hs, hh⟩ := runEvent_cfg_schedule_history he
    exact ⟨hc, hs, .inr ⟨_, hh⟩⟩
  · exact ⟨rfl, by rw [hs]; rfl, .inl rfl⟩

/-! ## Reset and the lines -/

/-- Settles O1: the reset table read off `State.resetWith`. -/
theorem resetWritesEveryRegister : Obligations.ResetWritesEveryRegister := fun _ =>
  ⟨_, rfl, rfl, rfl, rfl, rfl, fun k => Vector.getElem_replicate k.isLt, rfl, rfl, rfl, rfl, rfl, rfl, rfl, rfl, rfl⟩

/-- Settles O36: the lines are free values after the halt only. -/
theorem linesCarryTheirRegisters : Obligations.LinesCarryTheirRegisters := by
  intro s n h
  simp [State.line, State.adcSel, h]

end Sys2Proof.Machine

/-! Proofs: waking, sleeping and the watchdog (spec/43_power_fsm.md R213 to R217, spec/60_exceptions.md R233, R247). -/

namespace Sys2Proof.Machine

/-! ## Waking -/

/-- Settles O53: WAKE is enabled exactly while armed. -/
theorem wakeFlagsAndEndsTheDeepSleep : Obligations.WakeFlagsAndEndsTheDeepSleep := fun _ hh =>
  ⟨fun harmed => whenEnabled_step hh harmed, fun harmed => whenEnabled_noStep hh harmed⟩

/-- Settles O50: FG_PD_SLEEP is enabled exactly while the foreground is armed. -/
theorem checkThenSleepIsAtomic : Obligations.CheckThenSleepIsAtomic := fun _ hh =>
  ⟨fun hphase => whenEnabled_step hh (decide_eq_true hphase), fun hphase => whenEnabled_noStep hh (decide_eq_false hphase)⟩

theorem PowerRegs.wakeLight_of_lightSleep {r : PowerRegs} (h : r.fgPhase = .lightSleep) : r.wakeLight.fgPhase = .run :=
  if_pos h

/-- Settles O55: each of the four events ends in `wakeLight`. -/
theorem everyInterruptEndsTheLightSleep : Obligations.EveryInterruptEndsTheLightSleep := by
  intro s t e hlight he hst
  have hrun := PowerRegs.wakeLight_of_lightSleep hlight
  rcases he with ⟨b, q, rfl⟩ | ⟨cs, rx, rfl⟩ | rfl | ⟨v, rfl⟩
  · obtain ⟨-, -, rfl⟩ := runEvent_tick_iff.1 hst
    exact hrun
  · obtain ⟨-, -, rfl⟩ := runEvent_spiByte_iff.1 hst
    rw [State.transfer_power, hrun]
  · obtain ⟨-, -, rfl⟩ := runEvent_spiDeselect_iff.1 hst
    exact hrun
  · obtain ⟨-, -, rfl⟩ := runEvent_adcDone_iff.1 hst
    exact hrun

/-! ## The deep sleep -/

/-- Settles O56: in the deep sleep the wake source is armed, so both components are disabled, and the foreground is neither
running nor armed. -/
theorem deepSleepIsFrozenUntilWake : Obligations.DeepSleepIsFrozenUntilWake := by
  intro s h hh hdeep
  obtain ⟨harmed, hadc, hspi, -⟩ := h.sleep
  rw [hdeep] at harmed
  rw [harmed] at hadc hspi
  refine ⟨fun e t hst => ?_, ⟨s.wakeUp, runEvent_wake_iff.2 ⟨hh, harmed, rfl⟩, if_pos hdeep⟩, fun htick b q => ?_⟩
  · rcases runEvent_cases hst with ⟨b, q, rfl, -, htick, -⟩ | ⟨cs, rx, -, -, hen, -⟩ | ⟨-, -, hen, -⟩ | ⟨v, -, -, hbusy, -⟩ |
      ⟨rfl, -⟩ | ⟨-, -, hphase, -⟩ | ⟨-, -, hphase, -⟩ | ⟨rfl, -⟩
    · exact .inr (.inr ⟨by simpa [tickEnabled, hdeep] using htick, b, q, rfl⟩)
    · simp [hspi, expectedArmed] at hen
    · simp [hspi, expectedArmed] at hen
    · simp [AdcRegs.busy, hadc, expectedArmed] at hbusy
    · exact .inl rfl
    · simp [hdeep] at hphase
    · simp [hdeep] at hphase
    · exact .inr (.inl rfl)
  · refine ⟨s.tick b q, runEvent_tick_iff.2 ⟨hh, by simp [tickEnabled, htick], rfl⟩, ?_⟩
    exact wakeLight_of_ne _ (by rw [hdeep]; nofun)

/-! ## The armed block -/

/-- The block waits for its check, `pending` or not (R199, R213). -/
structure State.WaitsForCheck (s : State) (pending : Bool) : Prop where
  running : s.spi.halted = false
  phase : s.power.fgPhase = .pdArmed
  armed : s.power.wakeArmed = true
  wakePending : s.power.wakePending = pending

/-- A tick or a wake of the armed block keeps it waiting, and a pending wake stays pending (R216). -/
theorem State.WaitsForCheck.runEvent {s : State} {pending : Bool} {e : Event} (h : s.WaitsForCheck pending)
    (he : e = .wake ∨ ∃ b q, e = .tick b q) :
    ∃ t, runEvent e s = .next t ∧ t.WaitsForCheck (pending || decide (e = .wake)) := by
  obtain ⟨hh, hphase, harmed, hpending⟩ := h
  rcases he with rfl | ⟨b, q, rfl⟩
  · exact ⟨s.wakeUp, runEvent_wake_iff.2 ⟨hh, harmed, rfl⟩, hh, by simp [State.wakeUp, hphase], harmed, by simp [State.wakeUp]⟩
  · exact ⟨s.tick b q, runEvent_tick_iff.2 ⟨hh, by simp [tickEnabled, hphase], rfl⟩, hh, by simp [hphase], harmed,
      by simpa using hpending⟩

theorem State.WaitsForCheck.runEvents {s : State} {pending : Bool} {es : List Event} (h : s.WaitsForCheck pending)
    (hes : ∀ e ∈ es, e = .wake ∨ ∃ b q, e = .tick b q) :
    ∃ t, runEvents es s = .next t ∧ t.WaitsForCheck (pending || decide (.wake ∈ es)) := by
  induction es generalizing s pending with
  | nil => exact ⟨s, rfl, by simpa using h⟩
  | cons e es ih =>
    obtain ⟨u, hu, hwaits⟩ := h.runEvent (hes e List.mem_cons_self)
    obtain ⟨t, ht, hwaits'⟩ := ih hwaits fun e' he' => hes e' (List.mem_cons_of_mem e he')
    refine ⟨t, by rw [runEvents_cons, hu, andThen_next, ht], ?_⟩
    simpa [List.mem_cons, Bool.decide_or, eq_comm, Bool.or_assoc] using hwaits'

/-- Settles O54: the wake stays pending until the check. -/
theorem wakeBeforeTheCheckPreventsTheSleep : Obligations.WakeBeforeTheCheckPreventsTheSleep := by
  intro s es hh hphase harmed hes hwake
  have hwaits : s.WaitsForCheck s.power.wakePending := ⟨hh, hphase, harmed, rfl⟩
  obtain ⟨t, ht, ⟨hh', hphase', -, hpending⟩⟩ := hwaits.runEvents hes
  rw [decide_eq_true hwake, Bool.or_true] at hpending
  have hcheck : runEvent .fgPdSleep t = .next t.checkThenSleep := runEvent_fgPdSleep_iff.2 ⟨hh', hphase', rfl⟩
  exact ⟨t.checkThenSleep, by simp [runEvents_append, ht, hcheck], if_pos hpending, rfl⟩

/-! ## The watchdog -/

theorem State.kickOverdue_iff {s : State} :
    s.kickOverdue = true ↔ s.spi.halted = true ∨ ∀ n, s.sinceKick = some n → Config.wdtPeriod < n := by
  unfold State.kickOverdue
  cases s.sinceKick <;> simp

theorem stepWatchdog_eq (rest : List Input) (s : State) :
    stepWatchdog rest s =
      if s.cfg.wdtPresent = true ∧ Config.wdtPolicy s.history = true ∧
          (s.spi.halted = true ∨ ∀ n, s.sinceKick = some n → Config.wdtPeriod < n) then
        .next { State.resetWith s.cfg with schedule := rest, outputs := [], history := .watchdog :: s.history }
      else .refused (.noStep .watchdog) := by
  rw [stepWatchdog]
  refine if_congr ?_ rfl rfl
  rw [State.watchdogFires_iff, State.kickOverdue_iff, and_comm (b := Config.wdtPolicy _ = true)]

/-- An event but FG_PD_SLEEP keeps the time since the last kick known, and only TICK adds to it (R247). -/
theorem runEvent_sinceKick {e : Event} {s t : State} {m : Nat} (h : runEvent e s = .next t) (he : e ≠ .fgPdSleep)
    (hm : s.sinceKick = some m) : ∃ n, t.sinceKick = some n ∧ n ≤ m + ticksIn [e] := by
  rcases runEvent_cases h with ⟨b, q, rfl, -, -, rfl⟩ | ⟨cs, rx, rfl, -, -, rfl⟩ | ⟨rfl, -, -, rfl⟩ | ⟨v, rfl, -, -, rfl⟩ |
    ⟨rfl, -, -, rfl⟩ | ⟨rfl, -, -, rfl⟩ | ⟨rfl, -⟩ | ⟨rfl, rfl⟩
  · exact ⟨m + 1, by simp [hm], le_rfl⟩
  · exact ⟨m, by simpa using hm, le_rfl⟩
  · exact ⟨m, hm, le_rfl⟩
  · exact ⟨m, hm, le_rfl⟩
  · exact ⟨m, hm, le_rfl⟩
  · rcases s.foregroundPass_cases with ⟨-, hp⟩ | ⟨-, hp⟩ <;> rw [hp]
    · exact ⟨m, by rw [dispatch_sinceKick, hm], le_rfl⟩
    · exact ⟨0, rfl, Nat.zero_le _⟩
  · exact absurd rfl he
  · exact ⟨0, rfl, Nat.zero_le _⟩

theorem runEvents_sinceKick {es : List Event} {s t : State} {m : Nat} (h : runEvents es s = .next t)
    (hes : .fgPdSleep ∉ es) (hm : s.sinceKick = some m) : ∃ n, t.sinceKick = some n ∧ n ≤ m + ticksIn es := by
  induction es generalizing s m with
  | nil =>
    cases h
    exact ⟨m, hm, le_rfl⟩
  | cons e es ih =>
    obtain ⟨u, hu, ht⟩ := andThen_next_iff.1 h
    rw [List.mem_cons, not_or] at hes
    obtain ⟨k, hk, hle⟩ := runEvent_sinceKick hu (Ne.symm hes.1) hm
    obtain ⟨n, hn, hle'⟩ := ih ht hes.2 hk
    have hticks : ticksIn (e :: es) = ticksIn [e] + ticksIn es := by
      simp [ticksIn, List.countP_cons, Nat.add_comm]
    exact ⟨n, hn, by omega⟩

/-- Settles O60: the ticks since the last kick stay within the period, so the watchdog is not overdue. -/
theorem watchdogResetsWhereItsPolicyFires : Obligations.WatchdogResetsWhereItsPolicyFires := by
  refine fun s => ⟨fun inputs hs => by rw [step, hs]; exact stepWatchdog_eq inputs s, ?_⟩
  intro es t m inputs hm hes hperiod hrun hh
  obtain ⟨n, hn, hle⟩ := runEvents_sinceKick hrun hes hm
  refine ⟨⟨n, hn, hle⟩, (stepWatchdog_eq inputs _).trans (if_neg ?_)⟩
  rintro ⟨-, -, hhalted | hover⟩
  · exact absurd (hh.symm.trans hhalted) Bool.false_ne_true
  · have := hover n hn
    omega

end Sys2Proof.Machine

/-! Proofs: the tick and the filters (spec/40_tick_debounce.md R100 to R106), and the store of a result
(spec/41_adc_sequencer.md R120). -/

namespace Sys2Proof.Machine

/-- The words of R217 for the end of a light sleep, in the statements and in the model. -/
theorem PowerRegs.awake_eq_wakeLight (r : PowerRegs) : r.awake = r.wakeLight := by
  cases r with | mk _ _ _ _ phase => cases phase <;> rfl

/-! ## The tick -/

/-- The held level by the number the mask stands for (R103). -/
theorem heldLevel_eq {w : Nat} (h1 : 1 ≤ w) (h : w ≤ 16) (m : MaskBits) (old : Bool) :
    heldLevel w m old = if m.toNat = 0 then true else if m.toNat = 2 ^ w - 1 then false else old := by
  have hzero : m.toNat = 0 ↔ db w m = .asserted := by
    rw [db_asserted_iff, ← BitVec.toNat_inj]
    rfl
  have hones : m.toNat = 2 ^ w - 1 ↔ db w m = .released := by
    rw [db_released_iff h1 h, ← BitVec.toNat_inj, ones_toNat h]
  rw [heldLevel, if_congr hzero rfl (if_congr hones rfl rfl)]
  cases db w m <;> rfl

/-- Settles O37: the shift and the held level as arithmetic on the mask's number. -/
theorem tickShiftsFiltersAndCountsTimers : Obligations.TickShiftsFiltersAndCountsTimers := by
  intro s b q hcfg hh hphase
  obtain ⟨⟨hw1, hw⟩, -⟩ := hcfg
  refine ⟨s.tick b q, runEvent_tick_iff.2 ⟨hh, by simpa [tickEnabled] using hphase, rfl⟩, ?_, shiftIn_toNat hw _ b,
    shiftIn_toNat hw _ q, heldLevel_eq hw1 hw _ _, heldLevel_eq hw1 hw _ _, rfl, rfl, rfl⟩
  rw [PowerRegs.awake_eq_wakeLight]
  rfl

/-! ## The filter law -/

/-- A register into which the samples were shifted, one after the other (R101). -/
def shiftAll (w : Nat) (m : MaskBits) (samples : List Bool) : MaskBits := samples.foldl (shiftIn w) m

/-- Bit i of the register is the sample shifted in i ticks before the last one. -/
theorem shiftAll_getLsbD {w : Nat} (h : w ≤ 16) (m : MaskBits) (samples : List Bool) {i : Nat} (hi : i < w)
    (hlen : i < samples.length) : (shiftAll w m samples).getLsbD i = samples.reverse[i]'(by simpa using hlen) := by
  induction samples using List.reverseRecOn generalizing i with
  | nil => simp at hlen
  | append_singleton samples x ih =>
    rw [shiftAll, List.foldl_append, List.foldl_cons, List.foldl_nil, shiftIn_getLsbD h]
    cases i with
    | zero => simp [hi]
    | succ i =>
      have hlast := ih (i := i) (by omega) (by simpa using hlen)
      simpa [hi, shiftAll] using hlast

/-- The register holds W bits, whatever it held before the first sample. -/
theorem shiftAll_fits {w : Nat} (h : w ≤ 16) (m : MaskBits) {samples : List Bool} (hne : samples ≠ []) :
    (shiftAll w m samples).toNat < 2 ^ w := by
  rcases List.eq_nil_or_concat samples with rfl | ⟨init, x, rfl⟩
  · exact absurd rfl hne
  · simpa [shiftAll] using shiftIn_fits h _ x

/-- Two registers of W bits are equal if their W bits are. -/
theorem eq_of_low_bits {w : Nat} {m m' : MaskBits} (h : m.toNat < 2 ^ w) (h' : m'.toNat < 2 ^ w)
    (hbits : ∀ i < w, m.getLsbD i = m'.getLsbD i) : m = m' := by
  apply BitVec.eq_of_getLsbD_eq
  intro i _
  by_cases hi : i < w
  · exact hbits i hi
  · have hpow : 2 ^ w ≤ 2 ^ i := Nat.pow_le_pow_right (by decide) (Nat.not_lt.1 hi)
    have hz : ∀ n : MaskBits, n.toNat < 2 ^ w → n.getLsbD i = false := fun n hn =>
      Nat.testBit_lt_two_pow (hn.trans_le hpow)
    rw [hz m h, hz m' h']

/-- After at least W samples the register is the pattern of W equal bits exactly if the last W samples agree. -/
theorem shiftAll_eq_iff {w : Nat} (h1 : 1 ≤ w) (h : w ≤ 16) (m : MaskBits) {samples : List Bool} (hlen : w ≤ samples.length)
    {pattern : MaskBits} {level : Bool} (hfits : pattern.toNat < 2 ^ w) (hbits : ∀ i < w, pattern.getLsbD i = level) :
    shiftAll w m samples = pattern ↔ ∀ x ∈ samples.drop (samples.length - w), x = level := by
  have hne : samples ≠ [] := by
    rintro rfl
    simp at hlen
    omega
  have hlast : ∀ x, x ∈ samples.drop (samples.length - w) ↔ x ∈ samples.reverse.take w := by
    intro x
    rw [List.take_reverse, List.mem_reverse]
  have hall : (∀ x ∈ samples.drop (samples.length - w), x = level) ↔ ∀ i < w, (shiftAll w m samples).getLsbD i = level := by
    constructor
    · intro hx i hi
      rw [shiftAll_getLsbD h m samples hi (by omega)]
      refine hx _ ((hlast _).2 (List.mem_take_iff_getElem.2 ⟨i, ?_, rfl⟩))
      rw [List.length_reverse]
      omega
    · intro hb x hx
      obtain ⟨i, hi, rfl⟩ := List.mem_take_iff_getElem.1 ((hlast x).1 hx)
      rw [List.length_reverse, Nat.lt_min] at hi
      rw [← shiftAll_getLsbD h m samples hi.1 hi.2, hb i hi.1]
  rw [hall]
  constructor
  · rintro hp i hi
    rw [hp, hbits i hi]
  · exact fun hb => eq_of_low_bits (shiftAll_fits h m hne) hfits fun i hi => by rw [hb i hi, hbits i hi]

/-- The reading of a line after at least W samples (R13, R101, D5). -/
theorem db_shiftAll_iff {w : Nat} (h1 : 1 ≤ w) (h : w ≤ 16) (m : MaskBits) {samples : List Bool} (hlen : w ≤ samples.length) :
    (db w (shiftAll w m samples) = .asserted ↔ ∀ x ∈ samples.drop (samples.length - w), x = false) ∧
    (db w (shiftAll w m samples) = .released ↔ ∀ x ∈ samples.drop (samples.length - w), x = true) := by
  have hpos := Nat.two_pow_pos w
  constructor
  · rw [db_asserted_iff]
    exact shiftAll_eq_iff h1 h m hlen hpos fun i _ => BitVec.getLsbD_zero
  · rw [db_released_iff h1 h]
    refine shiftAll_eq_iff h1 h m hlen ?_ fun i hi => by rw [ones_getLsbD h, decide_eq_true hi]
    rw [ones_toNat h]
    omega

/-- Outside the halt and the deep sleep every tick has a step, and the masks take the samples in (R100, R101). -/
theorem runEvents_ticks {s : State} (samples : List (Bool × Bool)) (hh : s.spi.halted = false)
    (hphase : s.power.fgPhase ≠ .deepSleep) :
    ∃ t, runEvents (samples.map fun x => .tick x.1 x.2) s = .next t ∧ t.cfg = s.cfg ∧
      t.debounce.buttonMask = shiftAll s.cfg.w s.debounce.buttonMask (samples.map Prod.fst) ∧
      t.debounce.peerMask = shiftAll s.cfg.w s.debounce.peerMask (samples.map Prod.snd) := by
  induction samples generalizing s with
  | nil => exact ⟨s, rfl, rfl, rfl, rfl⟩
  | cons x samples ih =>
    have hstep : runEvent (.tick x.1 x.2) s = .next (s.tick x.1 x.2) :=
      runEvent_tick_iff.2 ⟨hh, by simp [tickEnabled, hphase], rfl⟩
    have hphase' : (s.tick x.1 x.2).power.fgPhase ≠ .deepSleep := by
      rw [State.tick_power, PowerRegs.wakeLight_fgPhase]
      split
      · nofun
      · exact hphase
    obtain ⟨t, ht, hcfg, hbutton, hpeer⟩ := ih (s := s.tick x.1 x.2) hh hphase'
    exact ⟨t, by rw [List.map_cons, runEvents_cons, hstep, andThen_next, ht], hcfg, hbutton, hpeer⟩

/-- Settles O38: after W ticks the mask is the last W samples. -/
theorem filterDecidesByWAgreeingSamples : Obligations.FilterDecidesByWAgreeingSamples := by
  intro s samples hcfg hh hphase hlen
  obtain ⟨⟨hw1, hw⟩, -⟩ := hcfg
  obtain ⟨t, ht, htcfg, hbutton, hpeer⟩ := runEvents_ticks samples hh hphase
  obtain ⟨hb0, hb1⟩ := db_shiftAll_iff hw1 hw s.debounce.buttonMask (samples := samples.map Prod.fst) (by simpa using hlen)
  obtain ⟨hp0, hp1⟩ := db_shiftAll_iff hw1 hw s.debounce.peerMask (samples := samples.map Prod.snd) (by simpa using hlen)
  rw [← hbutton, List.length_map, ← List.map_drop, List.forall_mem_map] at hb0 hb1
  rw [← hpeer, List.length_map, ← List.map_drop, List.forall_mem_map] at hp0 hp1
  rw [← htcfg] at hb0 hb1 hp0 hp1
  rw [← htcfg]
  exact ⟨t, ht, hb0, hb1, hp0, hp1⟩

/-! ## The store of a result -/

/-- Settles O39: ADC_DONE is enabled exactly while the converter is busy. -/
theorem adcDoneStoresTheResult : Obligations.AdcDoneStoresTheResult := by
  intro s v hh
  refine ⟨fun k he hk hn hc => ?_, fun h => whenEnabled_noStep hh ?_⟩
  · refine runEvent_adcDone_iff.2 ⟨hh, by simp [AdcRegs.busy, he, hk, hc], ?_⟩
    rw [PowerRegs.awake_eq_wakeLight, State.conversionDone, AdcRegs.store, hk]
    simp only [AdcRegs.writeValue, if_pos hn]
    rfl
  · rcases h with h | h | h <;> simp [AdcRegs.busy, h]

end Sys2Proof.Machine

/-! Proofs: the bytes of the bus (spec/42_spi_responder.md R140 to R160): the whole state after each byte, the answers of the
commands, and a transaction in every phase of the count. -/

namespace Sys2Proof.Machine

/-! ## One byte -/

/-- What an address byte does to the two request flags (R147, R149, D24). -/
def requests (a : Byte) (r : SpiRegs) : SpiRegs :=
  { r with
    auxToggleReq := r.auxToggleReq || decide (a = 0x03)
    bootReq := r.bootReq || decide (a = 0x05) }

/-- What wire byte 2 of a transaction with address `a` does to the mask (R142, R145). -/
def maskStore (a d : Byte) (r : AdcRegs) : AdcRegs := { r with channelMask := if a = 0x01 then d else r.channelMask }

theorem State.perform_addressEffect (s : State) (a : Byte) :
    s.perform (addressEffect a) = { s with spi := requests a s.spi } := by
  unfold addressEffect requests
  split_ifs with h3 h5
  · subst h3
    simp [State.perform, SpiRegs.requestToggle]
  · subst h5
    simp [State.perform, SpiRegs.requestBoot]
  · rw [decide_eq_false h3, decide_eq_false h5, Bool.or_false, Bool.or_false]
    rfl

theorem State.perform_byte2Effect (s : State) (t : TransactionState) (d : Byte) :
    s.perform (onByte2 t d).effect = { s with adc := maskStore t.addr d s.adc } := by
  unfold onByte2 maskStore
  dsimp only
  split_ifs <;> rfl

theorem State.transfer_framed {s : State} (h : s.Framed) (a : Byte) :
    s.transfer true a = s.afterByte1 a (memRead s a).1 (memRead s a).2 (requests a) := by
  rw [State.transfer_addressed, onByteReceived_address _ _ _ _ h, State.afterByte1, PowerRegs.awake_eq_wakeLight, onAddress,
    State.perform_addressEffect]
  rfl

theorem State.transfer_byte2 {s : State} (h : s.spi.phase = .expectByte2) (d : Byte) :
    s.transfer true d = s.afterByte2 (maskStore s.spi.addr d) := by
  rw [State.transfer_addressed, onByteReceived_byte2 _ _ _ _ h, State.afterByte2, PowerRegs.awake_eq_wakeLight,
    State.perform_byte2Effect]
  rfl

theorem State.transfer_byte3 {s : State} (h : s.spi.phase = .expectByte3) (p : Byte) : s.transfer true p = s.afterByte3 := by
  rw [State.transfer_addressed, onByteReceived_byte3 _ _ _ _ h, State.afterByte3, PowerRegs.awake_eq_wakeLight]
  rfl

theorem State.BusReady.byte_step {s : State} (h : s.BusReady) (cs : Bool) (rx : Byte) :
    runEvent (.spiByte cs rx) s = .next (s.transfer cs rx) := runEvent_spiByte_iff.2 ⟨h.1, h.2, rfl⟩

theorem State.BusReady.transfer {s : State} (h : s.BusReady) (cs : Bool) (rx : Byte) : (s.transfer cs rx).BusReady := by
  simpa only [State.BusReady, State.transfer_spi_halted, State.transfer_spi_enabled] using h

/-- Settles O28: wire byte 1. -/
theorem addressByteLatchesBothResponses : Obligations.AddressByteLatchesBothResponses := fun _ rx hbus hframed =>
  (hbus.byte_step true rx).trans (congrArg _ (State.transfer_framed hframed rx))

/-- Settles O29: wire byte 2. -/
theorem secondByteWritesTheMaskForSetmaskOnly : Obligations.SecondByteWritesTheMaskForSetmaskOnly := fun _ rx hbus hphase =>
  (hbus.byte_step true rx).trans (congrArg _ (State.transfer_byte2 hphase rx))

/-- Settles O30: wire byte 3. -/
theorem thirdByteEndsTheTransaction : Obligations.ThirdByteEndsTheTransaction := fun _ rx hbus hphase =>
  (hbus.byte_step true rx).trans (congrArg _ (State.transfer_byte3 hphase rx))

/-- Settles O31: without the gate the byte does not reach the responder. -/
theorem unaddressedByteOnlySignalsTransfer : Obligations.UnaddressedByteOnlySignalsTransfer := by
  refine fun s rx => ⟨fun hbus => ?_, fun hh he cs => whenEnabled_noStep hh he⟩
  rw [hbus.byte_step false rx, State.transfer_unaddressed, PowerRegs.awake_eq_wakeLight]

/-- Settles O32: the deselect touches the count alone. -/
theorem deselectResetsOnlyTheProgressCounter : Obligations.DeselectResetsOnlyTheProgressCounter := by
  refine fun s => ⟨fun ⟨hh, he⟩ => ?_, fun hh he => whenEnabled_noStep hh he⟩
  rw [PowerRegs.awake_eq_wakeLight]
  exact runEvent_spiDeselect_iff.2 ⟨hh, he, rfl⟩

/-! ## The answers of the commands -/

/-- From a framed state every command is answered with what the bus reads at its address (R141 to R144). -/
theorem answers_memRead {s : State} (i : Instr) (hbus : s.BusReady) (hframed : s.Framed) :
    Answers i s (memRead s i.address).1 (memRead s i.address).2 (requests i.address) (maskStore i.address i.data.1) := by
  have h1 := State.transfer_framed hframed i.address
  have h2 := State.transfer_byte2 (s := s.transfer true i.address) (by rw [h1]; rfl) i.data.1
  have h3 := State.transfer_byte3 (s := (s.transfer true i.address).transfer true i.data.1) (by rw [h2]; rfl) i.data.2
  have hexec := exec_eq_transaction i s
  rw [transaction_step hbus.1 hbus.2] at hexec
  have hb1 := hbus.byte_step true i.address
  have hb2 := (hbus.transfer true i.address).byte_step true i.data.1
  have hb3 := ((hbus.transfer true i.address).transfer true i.data.1).byte_step true i.data.2
  have haddr : (s.transfer true i.address).spi.addr = i.address := by rw [h1]; rfl
  rw [haddr] at h2
  rw [h3, h2, h1] at hexec
  rw [h1] at hb1
  rw [h2, h1] at hb2
  rw [h3, h2, h1] at hb3
  exact ⟨hb1, hb2, hb3, hexec⟩

end Sys2Proof.Machine

/-! Proofs: the commands (spec/42_spi_responder.md R145 to R152, R63, R267): what each is answered, and a command in every phase
of the count. -/

namespace Sys2Proof.Machine

/-! ## Answers -/

theorem requests_of_ne {a : Byte} (h3 : a ≠ 0x03) (h5 : a ≠ 0x05) : requests a = id := by
  funext r
  simp only [requests, decide_eq_false h3, decide_eq_false h5, Bool.or_false, id_eq]

theorem maskStore_of_ne {a : Byte} (h : a ≠ 0x01) (d : Byte) : maskStore a d = id := by
  funext r
  simp only [maskStore, if_neg h, id_eq]

theorem requests_auxtog : requests 0x03 = fun r => { r with auxToggleReq := true } := by
  funext r
  simp [requests]

theorem requests_bootld : requests 0x05 = fun r => { r with bootReq := true } := by
  funext r
  simp [requests]

theorem answers_of_eq {s : State} {i : Instr} {a s2 s3 : Byte} {effect1 : SpiRegs → SpiRegs} {effect2 : AdcRegs → AdcRegs}
    (hbus : s.BusReady) (hframed : s.Framed) (ha : i.address = a) (hread : memRead s a = (s2, s3))
    (h1 : requests a = effect1) (h2 : maskStore a i.data.1 = effect2) : Answers i s s2 s3 effect1 effect2 := by
  have h := answers_memRead i hbus hframed
  rwa [ha, hread, h1, h2] at h

/-- A command that neither requests nor writes anything. -/
theorem answers_of_read {s : State} {i : Instr} {a s2 s3 : Byte} (hbus : s.BusReady) (hframed : s.Framed)
    (ha : i.address = a) (hread : memRead s a = (s2, s3)) (h1 : a ≠ 0x01) (h3 : a ≠ 0x03) (h5 : a ≠ 0x05) :
    Answers i s s2 s3 id id :=
  answers_of_eq hbus hframed ha hread (requests_of_ne h3 h5) (maskStore_of_ne h1 _)

/-- Settles O16: address 0x01 reads 0, 0, and it alone stores the mask. -/
theorem setmaskWritesTheMaskAtWireByte2 : Obligations.SetmaskWritesTheMaskAtWireByte2 := fun s _ _ hbus hframed =>
  answers_of_eq (a := 0x01) hbus hframed rfl (classify_setmask s.cfg s.adc) (requests_of_ne (by decide) (by decide)) rfl

/-- Settles O17: address 0x02 reads the mask. -/
theorem getmaskAnswersTheMask : Obligations.GetmaskAnswersTheMask := fun s _ _ hbus hframed =>
  answers_of_read (a := 0x02) hbus hframed rfl (classify_getmask s.cfg s.adc) (by decide) (by decide) (by decide)

/-- Settles O18: address 0x03 requests the toggle. -/
theorem auxtogRequestsTheToggleAtWireByte1 : Obligations.AuxtogRequestsTheToggleAtWireByte1 := fun s d _ hbus hframed =>
  answers_of_eq (a := 0x03) hbus hframed rfl (classify_auxtog s.cfg s.adc) requests_auxtog (maskStore_of_ne (by decide) d)

/-- Settles O19: address 0x04 reads the version pair. -/
theorem getverAnswersTheVersionPair : Obligations.GetverAnswersTheVersionPair := fun s _ _ hbus hframed =>
  answers_of_read (a := 0x04) hbus hframed rfl (classify_getver s.cfg s.adc) (by decide) (by decide) (by decide)

/-- Settles O20: address 0x05 requests the bootloader. -/
theorem bootldRequestsTheBootloaderAtWireByte1 : Obligations.BootldRequestsTheBootloaderAtWireByte1 :=
  fun s d _ hbus hframed =>
    answers_of_eq (a := 0x05) hbus hframed rfl (classify_bootld s.cfg s.adc) requests_bootld (maskStore_of_ne (by decide) d)

/-- Settles O21: address 0x06 reads the variant flag. -/
theorem gethwAnswersTheVariantFlag : Obligations.GethwAnswersTheVariantFlag := fun s _ _ hbus hframed =>
  answers_of_read (a := 0x06) hbus hframed rfl (classify_gethw s.cfg s.adc) (by decide) (by decide) (by decide)

/-! ## The channels -/

theorem lowByte_eq (v : Sample) : lowByte v = BitVec.ofNat 8 (v.toNat % 256) := by
  apply BitVec.eq_of_toNat_eq
  simp [lowByte]

theorem highByte_eq (v : Sample) : highByte v = BitVec.ofNat 8 (v.toNat / 256) := by
  apply BitVec.eq_of_toNat_eq
  simp [highByte, Nat.shiftRight_eq_div_pow]

theorem adcAddress_injective : ∀ j k : Chan, adcAddress j = adcAddress k → j = k := by decide

theorem adcAddress_ne_command : ∀ k : Chan, ∀ a ∈ [1, 2, 3, 4, 5, 6], adcAddress k ≠ a := by decide

@[simp] theorem getadcInstr_address (k : Chan) (d p : Byte) : (getadcInstr k d p).address = adcAddress k := by
  fin_cases k <;> rfl

/-- Settles O22: the address of a present channel reads its slot. -/
theorem getadcAnswersTheSlotLowByteFirst : Obligations.GetadcAnswersTheSlotLowByteFirst := by
  intro s k d p hbus hframed hk
  have hne := adcAddress_ne_command k
  refine answers_of_read hbus hframed (getadcInstr_address k d p) ?_ (hne 1 (by decide)) (hne 3 (by decide))
    (hne 5 (by decide))
  rw [memRead, classify_getadc _ _ _ hk, lowByte_eq, highByte_eq]

/-- An address that names neither a command nor a channel of the build (R152). -/
def Reserved (p : Config.Params) (a : Byte) : Prop := (∀ c ∈ [1, 2, 3, 4, 5, 6], a ≠ c) ∧ channelOf p a = none

theorem reserved_answers {s : State} {i : Instr} (hbus : s.BusReady) (hframed : s.Framed) (h : Reserved s.cfg i.address) :
    Answers i s 0 0 id id := by
  obtain ⟨hne, hchannel⟩ := h
  refine answers_of_read hbus hframed rfl ?_ (hne 1 (by decide)) (hne 3 (by decide)) (hne 5 (by decide))
  exact classify_reserved _ _ _ (hne 2 (by decide)) (hne 4 (by decide)) (hne 6 (by decide)) hchannel

theorem channelOf_eq_none {p : Config.Params} {a : Byte} (h : ∀ k : Chan, k.val < p.nCh → a ≠ adcAddress k) :
    channelOf p a = none := by
  rw [Option.eq_none_iff_forall_ne_some]
  intro k hk
  obtain ⟨hn, ha⟩ := channelOf_some_iff.1 hk
  exact h k hn ha

@[simp] theorem reservedRow_withData (d p : Byte) (i : Instr) : reservedRow (i.withData d p) = reservedRow i := by
  cases i <;> rfl

/-- The addresses of the reserved rows are neither a command's nor a channel's (R84). -/
theorem reserved_of_row {i : Instr} (hwf : i.wellFormed = true) (hrow : reservedRow i = true) (p : Config.Params) :
    Reserved p i.address := by
  have hall : ∀ a : Byte, reservedRow (decodeXfer a 0 0) = true →
      (∀ c ∈ [1, 2, 3, 4, 5, 6], a ≠ c) ∧ ∀ k : Chan, a ≠ adcAddress k := by decide
  rw [← decodeXfer_encode i hwf, decodeXfer_eq_withData, reservedRow_withData] at hrow
  obtain ⟨hne, hchannel⟩ := hall i.address hrow
  exact ⟨hne, channelOf_eq_none fun k _ => hchannel k⟩

theorem reserved_of_absent {p : Config.Params} {k : Chan} (h : p.nCh ≤ k.val) : Reserved p (adcAddress k) := by
  refine ⟨adcAddress_ne_command k, channelOf_eq_none fun j hj ha => ?_⟩
  have := adcAddress_injective k j ha
  subst this
  omega

/-- Settles O23: the two ways an address is reserved. -/
theorem reservedAddressAnswersZeros : Obligations.ReservedAddressAnswersZeros := by
  rintro s i hbus hframed hwf (hrow | ⟨k, d, p, hk, rfl⟩)
  · exact reserved_answers hbus hframed (reserved_of_row hwf hrow s.cfg)
  · exact reserved_answers hbus hframed (getadcInstr_address k d p ▸ reserved_of_absent hk)

end Sys2Proof.Machine

/-! Proofs: transactions among other things (spec/42_spi_responder.md R156, R63, R267, spec/70_reset_and_hazards.md R270): a
command in a misframed state, two commands in a row, and events between the bytes of one. -/

namespace Sys2Proof.Machine

/-! ## A command in every phase of the count -/

@[simp] theorem PowerRegs.awake_awake (r : PowerRegs) : r.awake.awake = r.awake := by
  simp only [PowerRegs.awake_eq_wakeLight, wakeLight_idem]

@[simp] theorem PowerRegs.awake_current (r : PowerRegs) : r.awake.current = r.current := by
  rw [PowerRegs.awake_eq_wakeLight, PowerRegs.wakeLight_current]

/-- What a command does by its count of bytes, `t` the state after it: the statement's own frame (R63, R267). -/
structure CommandFrame (s t : State) (i : Instr) : Prop where
  frame : t = { s with
    power := s.power.awake
    adc := { s.adc with channelMask := (maskWritten s i).getD s.adc.channelMask }
    spi := { t.spi with halted := s.spi.halted, enabled := s.spi.enabled, auxDir := s.spi.auxDir }
    outputs := s.outputs ++
      [.miso (.driven s.spi.tx), .miso (.driven (answered s i).1), .miso (.driven (answered s i).2)] }
  phase : t.spi.phase = phaseAfterThree s.spi.phase
  addr : t.spi.addr = addressTaken s i
  pending : t.spi.pending = (memRead s (addressTaken s i)).2
  tx : t.spi.tx = leftToDrive s t i
  xferFlag : t.spi.xferFlag = true
  auxToggleReq : t.spi.auxToggleReq = (s.spi.auxToggleReq || decide (addressTaken s i = 0x03))
  bootReq : t.spi.bootReq = (s.spi.bootReq || decide (addressTaken s i = 0x05))

theorem maskStore_eq (a d : Byte) (r : AdcRegs) :
    maskStore a d r = { r with channelMask := (if a = 0x01 then some d else none).getD r.channelMask } := by
  unfold maskStore
  split <;> rfl

theorem commandFrame_framed {s : State} (h : s.Framed) (i : Instr) :
    CommandFrame s (((s.transfer true i.address).transfer true i.data.1).transfer true i.data.2) i := by
  have h1 := State.transfer_framed h i.address
  have h2 := State.transfer_byte2 (s := s.transfer true i.address) (by rw [h1]; rfl) i.data.1
  have h3 := State.transfer_byte3 (s := (s.transfer true i.address).transfer true i.data.1) (by rw [h2]; rfl) i.data.2
  rw [h3, h2, h1]
  rcases h with h | h <;> constructor <;>
    simp [maskWritten, answered, addressTaken, leftToDrive, phaseAfterThree, h, State.afterByte1, State.afterByte2,
      State.afterByte3, requests, maskStore_eq]

theorem commandFrame_byte2 {s : State} (h : s.spi.phase = .expectByte2) (i : Instr) :
    CommandFrame s (((s.transfer true i.address).transfer true i.data.1).transfer true i.data.2) i := by
  have h1 := State.transfer_byte2 h i.address
  have h2 := State.transfer_byte3 (s := s.transfer true i.address) (by rw [h1]; rfl) i.data.1
  have h3 := State.transfer_framed (s := (s.transfer true i.address).transfer true i.data.1) (.inl (by rw [h2]; rfl)) i.data.2
  rw [h3, h2, h1]
  constructor
  case pending =>
    simp only [addressTaken, h]
    exact classify_snd_writeMask s.cfg s.adc i.data.2 _
  all_goals
    simp [maskWritten, answered, addressTaken, leftToDrive, phaseAfterThree, h, State.afterByte1, State.afterByte2,
      State.afterByte3, requests, maskStore_eq, memRead]

theorem commandFrame_byte3 {s : State} (h : s.spi.phase = .expectByte3) (i : Instr) :
    CommandFrame s (((s.transfer true i.address).transfer true i.data.1).transfer true i.data.2) i := by
  have h1 := State.transfer_byte3 h i.address
  have h2 := State.transfer_framed (s := s.transfer true i.address) (.inl (by rw [h1]; rfl)) i.data.1
  have h3 := State.transfer_byte2 (s := (s.transfer true i.address).transfer true i.data.1) (by rw [h2]; rfl) i.data.2
  rw [h3, h2, h1]
  constructor <;>
    simp [maskWritten, answered, addressTaken, leftToDrive, phaseAfterThree, h, State.afterByte1, State.afterByte2,
      State.afterByte3, requests, maskStore_eq, memRead]

theorem commandFrame (s : State) (i : Instr) :
    CommandFrame s (((s.transfer true i.address).transfer true i.data.1).transfer true i.data.2) i := by
  cases h : s.spi.phase with
  | expectAddress => exact commandFrame_framed (.inl h) i
  | expectByte2 => exact commandFrame_byte2 h i
  | expectByte3 => exact commandFrame_byte3 h i
  | reserved3 => exact commandFrame_framed (.inr h) i

/-- Settles O24: the three bytes in the order the count takes them; a bus read sees of it the mask alone. -/
theorem everyCommandCompletesInEveryPhaseAndItsFrame : Obligations.EveryCommandCompletesInEveryPhaseAndItsFrame := by
  intro s i hbus _
  obtain ⟨hframe, hphase, haddr, hpending, htx, hxfer, htoggle, hboot⟩ := commandFrame s i
  refine ⟨_, (exec_eq_transaction i s).trans (transaction_step hbus.1 hbus.2), hframe, hphase, haddr, hpending, htx, hxfer,
    htoggle, hboot, fun a ha => ?_, ?_⟩
  · rw [hframe]
    exact classify_writeMask s.cfg s.adc a _ ha
  · rw [hframe]
    rfl

/-! ## Two commands in a row -/

theorem Answers.exec {i : Instr} {s : State} {s2 s3 : Byte} {effect1 : SpiRegs → SpiRegs} {effect2 : AdcRegs → AdcRegs}
    (h : Answers i s s2 s3 effect1 effect2) :
    exec i s = .next ((s.afterByte1 i.address s2 s3 effect1).afterByte2 effect2).afterByte3 := h.2.2.2

/-- Settles O26: the first command leaves a framed state with `tx` 0 and the mask `m`. -/
theorem maskRoundTrip : Obligations.MaskRoundTrip := by
  intro s m p d' p' hbus hframed
  have hset := (setmaskWritesTheMaskAtWireByte2 s m p hbus hframed).exec
  have hget := fun t hbus' hframed' => (getmaskAnswersTheMask t d' p' hbus' hframed').exec
  refine ⟨_, _, hset, hget _ hbus (.inl rfl), ?_, rfl⟩
  simp [State.afterByte1, State.afterByte2, State.afterByte3]

/-- The foreground runs after a byte, whether it ran before or slept lightly (R217). -/
theorem PowerRegs.awake_fgPhase {r : PowerRegs} (h : r.fgPhase = .run ∨ r.fgPhase = .lightSleep) : r.awake.fgPhase = .run := by
  rw [PowerRegs.awake_eq_wakeLight, PowerRegs.wakeLight_fgPhase]
  rcases h with h | h <;> simp [h]

theorem exec_auxtog {s : State} (d p : Byte) (hbus : s.BusReady) (hframed : s.Framed) :
    ∃ t, exec (.auxtog d p) s = .next t ∧ t.BusReady ∧ t.Framed ∧ t.power = s.power.awake ∧
      t.spi.auxToggleReq = true ∧ t.spi.auxDir = s.spi.auxDir :=
  ⟨_, (auxtogRequestsTheToggleAtWireByte1 s d p hbus hframed).exec, hbus, .inl rfl,
    by simp [State.afterByte1, State.afterByte2, State.afterByte3], rfl, rfl⟩

/-- Settles O33: the second request finds the flag set, and the pass performs and clears it once. -/
theorem toggleRequestsMerge : Obligations.ToggleRequestsMerge := by
  intro s d p d' p' hbus hframed hphase hc
  obtain ⟨t, ht, hbus', hframed', hpower, -, hdir⟩ := exec_auxtog d p hbus hframed
  obtain ⟨u, hu, ⟨hhalted, -⟩, -, hpower', hreq, hdir'⟩ := exec_auxtog d' p' hbus' hframed'
  rw [hpower, PowerRegs.awake_awake] at hpower'
  have hready : u.PassReady := ⟨hhalted, by rw [hpower', PowerRegs.awake_fgPhase hphase]⟩
  obtain ⟨v, hv, -, htoggle, hdir'', -⟩ :=
    completePassPerformsTheDeferredEffects u hready (by rw [hpower', PowerRegs.awake_current, hc])
  exact ⟨t, u, v, ht, hu, hv, by rw [hdir'', hreq, if_pos rfl, hdir', hdir], htoggle⟩

/-! ## Events between the bytes -/

@[simp] theorem drivenBytes_append (os os' : List Output) :
    drivenBytes (os ++ os') = drivenBytes os ++ drivenBytes os' := List.filterMap_append

@[simp] theorem drivenBytes_startPulse (found : Option Chan) : drivenBytes (startPulse found) = [] := by
  cases found <;> rfl

/-- The transaction in progress, the mask and the bytes driven are as before, and no post-sleep hook is due. -/
structure Undisturbed (s t : State) : Prop where
  phase : t.spi.phase = s.spi.phase
  addr : t.spi.addr = s.spi.addr
  pending : t.spi.pending = s.spi.pending
  tx : t.spi.tx = s.spi.tx
  mask : t.adc.channelMask = s.adc.channelMask
  driven : drivenBytes t.outputs = drivenBytes s.outputs
  notExit : t.power.current ≠ .powerDownExit

/-- Outside `PowerDownExit` a pass leaves the count of bytes alone (R163). -/
theorem foregroundPass_phase {s : State} (h : s.power.current ≠ .powerDownExit) :
    s.foregroundPass.spi.phase = s.spi.phase := by
  have hd : (dispatch s).spi.phase = s.spi.phase := by
    rcases dispatch_components s with ⟨-, -, hspi⟩ | ⟨hexit, -⟩ | ⟨-, -, -, hspi⟩
    · rw [hspi, SpiRegs.presleep]
    · exact absurd hexit h
    · rw [hspi]
  rcases s.foregroundPass_cases with ⟨-, hp⟩ | ⟨-, hp⟩ <;> simp [hp, hd]

theorem foregroundPass_driven (s : State) : drivenBytes s.foregroundPass.outputs = drivenBytes s.outputs := by
  rcases s.foregroundPass_cases with ⟨-, hp⟩ | ⟨-, hp⟩ <;> rw [hp]
  · rw [dispatch_outputs]
  · rw [State.finishPass_outputs_eq, drivenBytes_append, drivenBytes_append, drivenBytes_startPulse, dispatch_outputs]
    exact (List.append_nil _).trans (List.append_nil _)

theorem undisturbed_of_quiet {s t : State} {e : Event} (h : runEvent e s = .next t) (he : quiet e = true)
    (hexit : s.power.current ≠ .powerDownExit) : Undisturbed s t := by
  rcases runEvent_cases h with ⟨b, q, rfl, -, -, rfl⟩ | ⟨cs, rx, rfl, -, -, rfl⟩ | ⟨rfl, -⟩ | ⟨v, rfl, -, -, rfl⟩ |
    ⟨rfl, -, -, rfl⟩ | ⟨rfl, -, -, rfl⟩ | ⟨rfl, -⟩ | ⟨rfl, -⟩
  · exact ⟨rfl, rfl, rfl, rfl, rfl, rfl, hexit⟩
  · obtain rfl : cs = false := by simpa [quiet] using he
    rw [State.transfer_unaddressed]
    exact ⟨rfl, rfl, rfl, rfl, rfl, by simp [drivenBytes], hexit⟩
  · cases he
  · exact ⟨rfl, rfl, rfl, rfl, by simp, rfl, hexit⟩
  · exact ⟨rfl, rfl, rfl, rfl, rfl, rfl, hexit⟩
  · exact ⟨foregroundPass_phase hexit, by simp, by simp, by simp, by simp, foregroundPass_driven s,
      s.foregroundPass_power ▸ dispatch_current_ne_powerDownExit hexit⟩
  · cases he
  · cases he

theorem undisturbed_of_quiet_events {s t : State} {es : List Event} (h : runEvents es s = .next t)
    (hes : ∀ e ∈ es, quiet e = true) (hexit : s.power.current ≠ .powerDownExit) : Undisturbed s t := by
  induction es generalizing s with
  | nil =>
    cases h
    exact ⟨rfl, rfl, rfl, rfl, rfl, rfl, hexit⟩
  | cons e es ih =>
    obtain ⟨u, hu, ht⟩ := andThen_next_iff.1 h
    have h1 := undisturbed_of_quiet hu (hes e List.mem_cons_self) hexit
    have h2 := ih ht (fun e' he' => hes e' (List.mem_cons_of_mem e he')) h1.notExit
    exact ⟨h2.phase.trans h1.phase, h2.addr.trans h1.addr, h2.pending.trans h1.pending, h2.tx.trans h1.tx,
      h2.mask.trans h1.mask, h2.driven.trans h1.driven, h2.notExit⟩

/-- While the serial hardware is enabled no wake source is armed, so the block is not in `PowerDownExit` (R30, R42). -/
theorem State.Inv.current_ne_powerDownExit {s : State} (h : s.Inv) (he : s.spi.enabled = true) :
    s.power.current ≠ .powerDownExit := by
  obtain ⟨harmed, -, hspi, -, -, hlight, -⟩ := h.sleep
  intro hc
  rw [he, harmed, hc] at hspi
  cases hphase : s.power.fgPhase with
  | lightSleep => exact absurd (hc.symm.trans (hlight hphase)) nofun
  | _ => simp [hphase, expectedArmed] at hspi

/-- Settles O27: what the bytes leave is undisturbed until the next byte takes it up. -/
theorem interleavedEventsDoNotDisturbATransaction : Obligations.InterleavedEventsDoNotDisturbATransaction := by
  intro s t a d p es1 es2 hinv hphase hes1 hes2 hrun
  simp only [List.append_assoc, List.singleton_append, runEvents_cons, runEvents_append, runEvents_nil, andThen_next_iff,
    runEvent_spiByte_iff] at hrun
  obtain ⟨s2, ⟨_, ⟨-, he, rfl⟩, hs2⟩, s4, ⟨_, ⟨-, -, rfl⟩, hs4⟩, _, ⟨-, -, rfl⟩, ht⟩ := hrun
  cases ht
  have hexit := hinv.current_ne_powerDownExit he
  rw [State.transfer_framed (.inl hphase)] at hs2
  have h1 := undisturbed_of_quiet_events hs2 hes1 (by simpa [State.afterByte1] using hexit)
  rw [State.transfer_byte2 h1.phase] at hs4
  have h2 := undisturbed_of_quiet_events hs4 hes2 (by simpa [State.afterByte2] using h1.notExit)
  rw [State.transfer_byte3 h2.phase]
  refine ⟨?_, rfl, rfl, ?_⟩
  · have htx : s4.spi.tx = (memRead s a).2 := h2.tx.trans h1.pending
    have hdriven : drivenBytes s4.outputs = drivenBytes s2.outputs ++ [s2.spi.tx] := h2.driven.trans (drivenBytes_append _ _)
    have hdriven' : drivenBytes s2.outputs = drivenBytes s.outputs ++ [s.spi.tx] := h1.driven.trans (drivenBytes_append _ _)
    rw [State.afterByte3, drivenBytes_append, hdriven, hdriven', h1.tx, htx]
    simp [State.afterByte1, drivenBytes, requests]
  · have hmask : s4.adc.channelMask = if s2.spi.addr = 0x01 then d else s2.adc.channelMask := h2.mask
    have haddr : s2.spi.addr = a := h1.addr
    have hmask' : s2.adc.channelMask = s.adc.channelMask := h1.mask
    exact hmask.trans (by rw [haddr, hmask'])

end Sys2Proof.Machine

/-! Proofs: the round of the sequencer (spec/41_adc_sequencer.md section 5): from the channel in flight the successors are the
requested channels in their cyclic order, and a round of results walks through them. -/

namespace Sys2Proof.Machine

/-! ## The cyclic order of the requested channels -/

/-- The requested channels in increasing order. -/
def requestedChannels (p : Config.Params) (m : Byte) : List Chan := channels.filter (requested p m)

theorem mem_requestedChannels {p : Config.Params} {m : Byte} {k : Chan} :
    k ∈ requestedChannels p m ↔ requested p m k = true := by
  simp [requestedChannels, mem_channels]

theorem requestedChannels_sorted (p : Config.Params) (m : Byte) : (requestedChannels p m).Pairwise (· < ·) :=
  List.Pairwise.filter _ (by decide)

theorem firstChannel_eq_head? (p : Config.Params) (m : Byte) : firstChannel p m = (requestedChannels p m).head? :=
  (List.head?_filter).symm

theorem firstAbove_eq_find? (p : Config.Params) (m : Byte) (c : Chan) :
    firstAbove p m c = (requestedChannels p m).find? (fun k => decide (c < k)) := by
  rw [requestedChannels, List.find?_filter, firstAbove]
  congr 1
  funext k
  simp [and_comm]

section
variable {p : Config.Params} {m : Byte}

/-- The successor of a requested channel is the next one of the list, or its first one behind the last (R122). -/
theorem nextChannel_of_split {c : Chan} {below above : List Chan} (h : requestedChannels p m = below ++ c :: above) :
    nextChannel p m c = (above ++ (below ++ [c])).head? := by
  have hsorted := requestedChannels_sorted p m
  rw [h, List.pairwise_append, List.pairwise_cons] at hsorted
  obtain ⟨-, ⟨habove, -⟩, hbelow⟩ := hsorted
  have hnone : below.find? (fun k => decide (c < k)) = none := by
    rw [List.find?_eq_none]
    intro k hk
    simpa using (hbelow k hk c List.mem_cons_self).le
  have hhead : above.find? (fun k => decide (c < k)) = above.head? := by
    cases above with
    | nil => rfl
    | cons k ks => simp [habove k List.mem_cons_self]
  rw [nextChannel_eq_or, firstAbove_eq_find?, firstChannel_eq_head?, h, List.find?_append, hnone, Option.none_or,
    List.find?_cons_of_neg (by simp), hhead]
  simp [List.head?_append]

/-- One channel after another, each the successor of the one before. -/
abbrev Walk (p : Config.Params) (m : Byte) (cs : List Chan) : Prop :=
  cs.IsChain fun j k => nextChannel p m j = some k

theorem walk_requestedChannels : Walk p m (requestedChannels p m) := by
  rw [Walk, List.isChain_iff_forall_rel_of_append_cons_cons]
  intro j k below above h
  rw [nextChannel_of_split h]
  rfl

/-- From a requested channel the walk goes up to the last one, on from the first one, and ends where it began. -/
theorem walk_round {c : Chan} {below above : List Chan} (h : requestedChannels p m = below ++ c :: above) :
    Walk p m (c :: (above ++ (below ++ [c]))) := by
  have hwalk := walk_requestedChannels (p := p) (m := m)
  rw [← List.cons_append, Walk, List.isChain_append]
  refine ⟨?_, ?_, ?_⟩
  · rw [h, Walk, List.isChain_append] at hwalk
    exact hwalk.2.1
  · rw [h, List.append_cons, Walk, List.isChain_append] at hwalk
    exact hwalk.1
  · intro j hj k hk
    obtain ⟨init, hinit⟩ := List.getLast?_eq_some_iff.1 hj
    have hsplit : requestedChannels p m = (below ++ init) ++ j :: [] := by rw [h, hinit, List.append_assoc]
    rw [nextChannel_of_split hsplit, List.nil_append, List.append_assoc, ← hinit]
    simpa [List.head?_append] using hk

end

/-! ## One result and one pass -/

/-- In `Wait` with nothing to do, and a conversion in flight on the requested channel `c`. -/
structure State.InRound (s : State) (c : Chan) : Prop where
  ready : s.PassReady
  current : s.power.current = .wait
  button : s.btn ≠ .asserted
  wakeup : s.timers.wakeup < s.cfg.wakeupTicks
  boot : s.spi.bootReq = false
  enabled : s.adc.enabled = true
  complete : s.adc.complete = false
  channel : s.adc.currentChannel = some c
  requested : requested s.cfg s.adc.channelMask c = true

theorem dispatch_of_wait_idle {s : State} (hc : s.power.current = .wait) (hb : s.btn ≠ .asserted)
    (hw : s.timers.wakeup < s.cfg.wakeupTicks) : dispatch s = s := by
  simp [dispatch, hc, dispatchWait, hb, expired, Int.not_le.2 hw]

/-- A result is stored in the slot in flight (R120); it changes nothing a pass in `Wait` reads but the sequencer. -/
theorem State.InRound.conversionDone_step {s : State} {c : Chan} (h : s.InRound c) (v : Sample) :
    runEvent (.adcDone v) s = .next (s.conversionDone v) ∧ (s.conversionDone v).PassReady ∧
      dispatch (s.conversionDone v) = s.conversionDone v := by
  obtain ⟨⟨hh, hrun⟩, hcurrent, hbutton, hwakeup, -, he, hc, hk, -⟩ := h
  have hpower : (s.conversionDone v).power = s.power := wakeLight_of_ne _ (by rw [hrun]; nofun)
  exact ⟨runEvent_adcDone_iff.2 ⟨hh, by simp [AdcRegs.busy, he, hk, hc], rfl⟩, ⟨hh, by rw [hpower, hrun]⟩,
    dispatch_of_wait_idle (by rw [hpower, hcurrent]) hbutton hwakeup⟩

/-- What a result and the pass after it leave: the successor is in flight, started once, and the result is stored. -/
structure Advances (s t : State) (c k : Chan) (v : Sample) : Prop where
  inRound : t.InRound k
  cfg : t.cfg = s.cfg
  mask : t.adc.channelMask = s.adc.channelMask
  starts : conversionStarts t.outputs = conversionStarts s.outputs ++ [k]
  value : ∀ j : Chan, t.adc.value[j] = if j = c then v else s.adc.value[j]

theorem State.InRound.advances {s : State} {c k : Chan} (h : s.InRound c) (hnext : nextChannel s.cfg s.adc.channelMask c = some k)
    (v : Sample) : ∃ t, runEvents [.adcDone v, .fgPass] s = .next t ∧ Advances s t c k v := by
  obtain ⟨hstep, hready, hdispatch⟩ := h.conversionDone_step v
  obtain ⟨⟨hh, hrun⟩, hcurrent, hbutton, hwakeup, hboot, he, -, hk, hreq⟩ := h
  have hpower : (s.conversionDone v).power = s.power := wakeLight_of_ne _ (by rw [hrun]; nofun)
  have hpass : (s.conversionDone v).foregroundPass = (s.conversionDone v).finishPass := by
    rw [hready.foregroundPass_eq (by rw [hpower, hcurrent]; rfl), hdispatch]
  have hsucc : (s.conversionDone v).successor = some k := by
    simp [State.successor, hk, hnext]
  have hadc : (s.conversionDone v).finishPass.adc =
      { (s.conversionDone v).adc with complete := false, currentChannel := some k } := by
    simp [State.adcPass_adc, he, hsucc]
  have hselected : (s.conversionDone v).selected = some k := by
    simp [State.selected, he, hsucc]
  refine ⟨(s.conversionDone v).finishPass, by simp [hstep, hready.fgPass_step, hpass], ?_, by simp, by simp, ?_, fun j => ?_⟩
  · exact ⟨⟨by simp [hboot, hh], by simp [hrun]⟩, by simp [hcurrent], by simpa [State.btn] using hbutton,
      by simpa using hwakeup, by simp [hboot], by simp [he], by rw [hadc], by rw [hadc], by simpa using nextChannel_requested hnext⟩
  · rw [State.conversionStarts_finishPass, hselected]
    rfl
  · rw [hadc]
    refine (AdcRegs.store_value s.cfg s.adc v j).trans (if_congr ?_ rfl rfl)
    rw [hk, Option.some.injEq]
    exact ⟨fun hj => hj.1.symm, fun hj => ⟨hj.symm, hj ▸ (requested_iff.1 hreq).1⟩⟩

/-! ## The round -/

/-- What a run of results and passes leaves that walks from `c` along `cs`. -/
structure Walks (s t : State) (c : Chan) (cs : List Chan) (vs : List Sample) : Prop where
  starts : conversionStarts t.outputs = conversionStarts s.outputs ++ cs
  channel : t.adc.currentChannel = (c :: cs).getLast?
  value : ∀ j : Chan, t.adc.value[j] = s.adc.value[j] ∨ t.adc.value[j] ∈ vs
  sampled : ∀ j ∈ (c :: cs).dropLast, t.adc.value[j] ∈ vs

theorem State.InRound.walks {s : State} {c : Chan} {cs : List Chan} {vs : List Sample} (h : s.InRound c)
    (hlen : vs.length = cs.length) (hwalk : Walk s.cfg s.adc.channelMask (c :: cs)) :
    ∃ t, runEvents (vs.flatMap fun v => [.adcDone v, .fgPass]) s = .next t ∧ Walks s t c cs vs := by
  induction vs generalizing s c cs with
  | nil =>
    obtain rfl := List.length_eq_zero_iff.1 hlen.symm
    exact ⟨s, rfl, (List.append_nil _).symm, h.channel, fun _ => .inl rfl, nofun⟩
  | cons v vs ih =>
    obtain ⟨k, cs, rfl⟩ := List.exists_cons_of_length_eq_add_one hlen.symm
    obtain ⟨hnext, hwalk⟩ := List.isChain_cons_cons.1 hwalk
    obtain ⟨u, hu, hin, hcfg, hmask, hstarts, hvalue⟩ := h.advances hnext v
    obtain ⟨t, ht, hstarts', hchannel, hvalue', hsampled⟩ :=
      ih hin (by simpa using hlen) (by rw [hcfg, hmask]; exact hwalk)
    refine ⟨t, by rw [List.flatMap_cons, runEvents_append, hu, andThen_next, ht], ?_, ?_, fun j => ?_, fun j hj => ?_⟩
    · rw [hstarts', hstarts, List.append_assoc]
      rfl
    · rw [hchannel]
      rfl
    · rcases hvalue' j with hsame | hnew
      · rw [hsame, hvalue]
        split
        · exact .inr List.mem_cons_self
        · exact .inl rfl
      · exact .inr (List.mem_cons_of_mem v hnew)
    · rcases List.mem_cons.1 hj with rfl | hj
      · rcases hvalue' j with hsame | hnew
        · rw [hsame, hvalue, if_pos rfl]
          exact List.mem_cons_self
        · exact List.mem_cons_of_mem v hnew
      · exact List.mem_cons_of_mem v (hsampled j hj)

/-- Settles O43: the round is the walk from the channel in flight through the other requested channels back to it. -/
theorem roundRobinVisitsEveryRequestedChannelOnce : Obligations.RoundRobinVisitsEveryRequestedChannelOnce := by
  intro s c vs _ hready hcurrent hbutton hwakeup hboot he hcomplete hchannel hreq hlen
  have hin : s.InRound c := ⟨hready, hcurrent, hbutton, hwakeup, hboot, he, hcomplete, hchannel, hreq⟩
  obtain ⟨below, above, hsplit⟩ := List.append_of_mem (mem_requestedChannels.2 hreq)
  have hperm : (above ++ (below ++ [c])).Perm (requestedChannels s.cfg s.adc.channelMask) := by
    rw [hsplit, List.append_cons below c above]
    exact List.perm_append_comm
  have hmem : ∀ k, k ∈ above ++ (below ++ [c]) ↔ requested s.cfg s.adc.channelMask k = true := fun k =>
    hperm.mem_iff.trans mem_requestedChannels
  obtain ⟨t, ht, hstarts, hlast, -, hsampled⟩ := hin.walks (hlen.trans hperm.length_eq.symm) (walk_round hsplit)
  refine ⟨t, above ++ (below ++ [c]), ht, hstarts, hperm.nodup_iff.2 (channels_nodup.filter _), hmem, by simp, ?_,
    fun k hk => hsampled k ?_⟩
  · rw [hlast]
    simp [List.getLast?_cons]
  · have hdrop : (c :: (above ++ (below ++ [c]))).dropLast = c :: (above ++ below) := by
      rw [← List.append_assoc, ← List.cons_append, List.dropLast_concat]
    have hk' := (hmem k).2 hk
    rw [hdrop]
    simp only [List.mem_append, List.mem_cons, List.not_mem_nil, or_false] at hk' ⊢
    tauto

end Sys2Proof.Machine
